-- ==== Sys2Proof/Word.lean ====
section
/-! DEFINITION. The highway word, the plain operand types of the commands, and the fixed-size table type. -/

namespace Sys2Proof

/-- A word of the highway: 32 bits, sent bit 31 first (R165, R167). -/
abbrev Word := BitVec 32

/-- The payload of a word, bits 29–0 (R167). A request's parameter is one payload, read unsigned. -/
abbrev Payload := BitVec 30

/-- The tag of a request, bits 14–0 of its header, echoed in its response (R167). -/
abbrev Tag := BitVec 15

/-- One value of the sample bus, 0 to 4095 (the signal list of the introduction; R79). -/
abbrev Sample := BitVec 12

/-- The management controllers, 0 to 3; client c uses slot c in both directions. -/
abbrev Client := Fin 4

/-- The fibre ports, 0 to 31. -/
abbrev PortNo := Fin 32

/-- The two test wavelengths. -/
inductive Band where
  | A | B
  deriving DecidableEq, Repr

/-- The other band. -/
def Band.other : Band → Band
  | .A => .B
  | .B => .A

/-- The two lines of the quadrature encoder (R56). -/
inductive EncoderLine where
  | A | B
  deriving DecidableEq, Repr

/-- One edge of the encoder as R56's table names it: the line, whether it rises, and the level of the
other line at that edge. -/
structure EncoderEdge where
  line : EncoderLine
  rises : Bool
  otherHigh : Bool
  deriving DecidableEq, Repr

/-- What the sample bus carried during one shot: `base` at every sample instant but those `listed`.
Every sequence of P samples has this form, and every value of this type gives each of the P instants a
sample (log entry 5). -/
structure Samples where
  base : Sample
  listed : List (Nat × Sample)
  deriving DecidableEq, Repr

/-- The fourteen profile fields as a SET PROFILE carries them, unadjusted, in the order of R9. -/
structure ProfileWords where
  groupIndex : Payload
  period : Payload
  points : Payload
  pulse : Payload
  averages : Payload
  floorMargin : Payload
  stepThreshold : Payload
  reflectionThreshold : Payload
  smoothing : Payload
  confirmLength : Payload
  bendMargin : Payload
  matchDistance : Payload
  bandAEnable : Payload
  losEnable : Payload
  deriving DecidableEq, Repr

/-- A table of exactly `n` values. -/
abbrev Tab (α : Type) (n : Nat) := Vector α n

/-- The value at place `i`. -/
def Tab.at {α : Type} {n : Nat} (t : Tab α n) (i : Fin n) : α := t[i.val]'i.isLt

/-- The table with `x` at place `i`. -/
def Tab.put {α : Type} {n : Nat} (t : Tab α n) (i : Fin n) (x : α) : Tab α n := t.set i.val x i.isLt

/-- The table with the same value at every place. -/
def Tab.all {α : Type} (n : Nat) (x : α) : Tab α n := Vector.replicate n x

/-- The table whose place `i` holds `f i`. -/
def Tab.of {α : Type} {n : Nat} (f : Fin n → α) : Tab α n := Vector.ofFn f

theorem Tab.at_put {α : Type} {n : Nat} (t : Tab α n) (i j : Fin n) (x : α) :
    (t.put i x).at j = if i = j then x else t.at j := by
  simp [Tab.at, Tab.put, Vector.getElem_set, Fin.ext_iff]

@[simp] theorem Tab.at_put_same {α : Type} {n : Nat} (t : Tab α n) (i : Fin n) (x : α) :
    (t.put i x).at i = x := by simp [Tab.at_put]

theorem Tab.at_put_ne {α : Type} {n : Nat} (t : Tab α n) {i j : Fin n} (x : α) (h : i ≠ j) :
    (t.put i x).at j = t.at j := by simp [Tab.at_put, h]

@[simp] theorem Tab.at_all {α : Type} (n : Nat) (x : α) (i : Fin n) : (Tab.all n x).at i = x := by
  simp [Tab.at, Tab.all]

@[simp] theorem Tab.at_of {α : Type} {n : Nat} (f : Fin n → α) (i : Fin n) : (Tab.of f).at i = f i := by
  simp [Tab.at, Tab.of]

theorem Tab.ext {α : Type} {n : Nat} (t u : Tab α n) (h : ∀ i, t.at i = u.at i) : t = u := by
  apply Vector.ext
  intro i hi
  exact h ⟨i, hi⟩

/-- A value for each of the two bands. -/
structure PerBand (α : Type) where
  a : α
  b : α
  deriving DecidableEq, Repr

/-- The value of one band. -/
def PerBand.at {α : Type} (x : PerBand α) : Band → α
  | .A => x.a
  | .B => x.b

/-- The pair with one band's value replaced. -/
def PerBand.put {α : Type} (x : PerBand α) (band : Band) (v : α) : PerBand α :=
  match band with
  | .A => { x with a := v }
  | .B => { x with b := v }

theorem PerBand.at_put {α : Type} (x : PerBand α) (i j : Band) (v : α) :
    (x.put i v).at j = if i = j then v else x.at j := by
  cases i <;> cases j <;> simp [PerBand.at, PerBand.put]

end Sys2Proof
end

