-- ==== Sys2Proof/Config.lean ====
section
/-! DEFINITION. The constants the manual fixes for every FT32. No value of the manual is left to the
implementation, so there is no free constant here (see NOTES.md, 'Scope'). -/

namespace Sys2Proof.Config

/-- Capacity of the test queue (R19). -/
def queueCapacity : Nat := 32
/-- QUEUED entries of origin REQUEST one client may hold (R24). -/
def shareLimit : Nat := 12
/-- The highest ticket; 1 follows it (R21). -/
def lastTicketValue : Nat := 65535
/-- Capacity of the fault table (R126). -/
def faultCapacity : Nat := 64
/-- Entries the commit queue holds at most (R146). -/
def commitCapacity : Nat := 4
/-- Findings kept of one test (R121). -/
def findingsLimit : Nat := 8
/-- Fault entries in one GET FINDINGS response (R138). -/
def findingsPerResponse : Nat := 6
/-- Shots of one block (R79). -/
def shotsPerBlock : Nat := 256
/-- Seconds of one day (R43). -/
def secondsPerDay : Nat := 86400
/-- Minutes of one day (R45). -/
def minutesPerDay : Nat := 1440
/-- The largest number of trace points, and so of samples of one shot (R9). -/
def maxPoints : Nat := 16384
/-- The light-speed constant K of the sample spacing (R104). -/
def spacingConstant : Nat := 37474057300
/-- Reversals that make a HUNT (R62). -/
def huntReversals : Nat := 3
/-- Distance at or below which the motor creeps (R61). -/
def creepDistance : Nat := 16
/-- Hits stay at this value once they reach it (R131). -/
def hitsLimit : Nat := 65535
/-- The move timer, 2,000 ms, in ns (R63). -/
def moveTime : Nat := 2000000000
/-- The settle timer, 20 ms, in ns (R64). -/
def settleTime : Nat := 20000000
/-- The homing timer, 6,000 ms, in ns (R66). -/
def homingTime : Nat := 6000000000
/-- Programming a WRITE, 80 ms, in ns (R149). -/
def writeTime : Nat := 80000000
/-- Programming an ERASE, 20 ms, in ns (R150). -/
def eraseTime : Nat := 20000000
/-- The hold timer, 60 s, in ns (R156). -/
def holdTime : Nat := 60000000000
/-- The analysis time of one point of one band, 2.5 µs, in ns (R89). -/
def analysisTimePerPoint : Nat := 2500
/-- The recovery time of a shot, 10 µs, in ns (R79). -/
def recoveryTime : Nat := 10000

end Sys2Proof.Config
end

