-- ==== Sys2Proof/Syntax.lean ====
section
/-! DEFINITION. The commands of the block: one constructor per row of spec/opcode_table.json. A request row
is the event at which the last word of that request is taken (R171); an event row is the event itself, with
what the event brings from outside as its operands. -/

namespace Sys2Proof.Machine

/-! ### What the baseline memory returns -/

/-- One point of a trace: level in tu, below-floor flag, clip flag (R91). -/
structure TracePoint where
  level : Int
  below : Bool
  clip : Bool
  deriving DecidableEq, Repr

/-- A VALID header with its level records (R143). -/
structure Capture where
  port : PortNo
  band : Band
  points : Nat
  period : Nat
  pulse : Nat
  averages : Nat
  groupIndex : Nat
  endIndex : Nat
  dark : Nat
  ticket : Nat
  time : Option Nat
  levels : List TracePoint
  deriving DecidableEq, Repr

/-- What the attached memory returns when the store reads a programmed slot back (R151): a header reading EMPTY, a
VALID header with its level records, or a header that is neither, such as one left invalidated (R149). -/
inductive ReadBack where
  | empty
  | valid (c : Capture)
  | other
  deriving DecidableEq, Repr

end Sys2Proof.Machine

namespace Sys2Proof

/-- The commands. Where a request names a client, that is the slot the request came in on. -/
inductive Instr where
  /-- POWER_ON: release of the reset input (R74, and every chapter's power-on values). -/
  | powerOn
  /-- CLAIM port (R4). -/
  | claim (c : Client) (tag : Tag) (port : Payload)
  /-- RELEASE port (R5 to R7). -/
  | release (c : Client) (tag : Tag) (port : Payload)
  /-- SET PROFILE port and fourteen fields (R10). -/
  | setProfile (c : Client) (tag : Tag) (port : Payload) (fields : ProfileWords)
  /-- GET PROFILE port (R13). -/
  | getProfile (c : Client) (tag : Tag) (port : Payload)
  /-- GET RESULT port (R16). -/
  | getResult (c : Client) (tag : Tag) (port : Payload)
  /-- SCHEDULE port, kind, band (R22). -/
  | schedule (c : Client) (tag : Tag) (port kind band : Payload)
  /-- CANCEL ticket (R25, R26). -/
  | cancel (c : Client) (tag : Tag) (ticket : Payload)
  /-- LIST QUEUE (R28). -/
  | listQueue (c : Client) (tag : Tag)
  /-- SET WINDOW start minute, end minute (R47). -/
  | setWindow (c : Client) (tag : Tag) (start stop : Payload)
  /-- SET CLOCK seconds (R44). -/
  | setClock (c : Client) (tag : Tag) (seconds : Payload)
  /-- CLOCK_ADVANCE: the one-second period expires (R43). -/
  | clockAdvance
  /-- HOME (R73). -/
  | home (c : Client) (tag : Tag)
  /-- GET TRACE source, port, band, first index, point count (R93). -/
  | getTrace (c : Client) (tag : Tag) (source port band first count : Payload)
  /-- GET TRACE of source BASELINE: port, band, first index, point count (R155). -/
  | getTraceBaseline (c : Client) (tag : Tag) (port band first count : Payload)
  /-- GET FINDINGS port, first position (R138). -/
  | getFindings (c : Client) (tag : Tag) (port first : Payload)
  /-- ACK FINDING port, entry id (R139). -/
  | ackFinding (c : Client) (tag : Tag) (port entry : Payload)
  /-- DELETE FINDING port, entry id (R140). -/
  | deleteFinding (c : Client) (tag : Tag) (port entry : Payload)
  /-- BASELINE INFO port (R153). -/
  | baselineInfo (c : Client) (tag : Tag) (port : Payload)
  /-- ERASE BASELINE port, band (R154). -/
  | eraseBaseline (c : Client) (tag : Tag) (port band : Payload)
  /-- HOLD (R157). -/
  | hold (c : Client) (tag : Tag)
  /-- RESUME (R160). -/
  | resume (c : Client) (tag : Tag)
  /-- STATUS (R176). -/
  | status (c : Client) (tag : Tag)
  /-- LINK RESET (R177). -/
  | linkReset (c : Client) (tag : Tag)
  /-- INBOUND_WORD: the last bit of client c's inbound slot, with the word (R170). -/
  | inboundWord (c : Client) (w : Word)
  /-- MALFORMED: a message of the words `ws` completes with an unknown code or a wrong length (R171). -/
  | malformed (c : Client) (ws : List Word)
  /-- OVERRUN: a message of the words `ws` completes while a request is pending (R171). -/
  | overrun (c : Client) (ws : List Word)
  /-- OUTBOUND_SLOT: the first bit of client c's outbound slot (R172). -/
  | outboundSlot (c : Client)
  /-- FRAME_SYNC: a frame sync at this bit of the current frame (R166). -/
  | frameSync (bit : Fin 128)
  /-- HIGHWAY_LOSS: 1 ms without a bit-clock edge (R178). -/
  | highwayLoss
  /-- LOS_EDGE: a loss-of-light edge on port p (R36, R37). -/
  | losEdge (p : PortNo)
  /-- ENCODER_COUNT: one edge of encoder line A or B (R56). -/
  | encoderCount (e : EncoderEdge)
  /-- ENCODER_ERROR: both encoder lines change at once (R57). -/
  | encoderError
  /-- INDEX_EDGE: the leading edge of the index mark (R58). -/
  | indexEdge
  /-- MOVE_TIMEOUT: the move timer expires (R63). -/
  | moveTimeout
  /-- SETTLE_EXPIRY: the settle timer expires (R64). -/
  | settleExpiry
  /-- HOMING_TIMEOUT: the homing timer expires (R68). -/
  | homingTimeout
  /-- SHOT: the shot in progress ends; `x` is what the sample bus carried during it (R79, R80). -/
  | shot (x : Samples)
  /-- DARK_BLOCK_BOUNDARY: the last shot of a dark block ends (R81). -/
  | darkBlockBoundary (x : Samples)
  /-- LASER_BLOCK_BOUNDARY: the last shot of a laser block in ACQUIRE ends (R82). -/
  | laserBlockBoundary (x : Samples)
  /-- DRAINED_BLOCK_BOUNDARY: the last shot of a drained laser block ends (R84). -/
  | drainedBlockBoundary (x : Samples)
  /-- ANALYSIS_END: the analysis timer expires (R90). -/
  | analysisEnd
  /-- PROGRAMMING_END: programming of the head entry ends; `r` is what the memory returns at the store's read-back
  (R151; log entry 23). -/
  | programmingEnd (r : Machine.ReadBack)
  /-- HOLD_TIMER_EXPIRY: the 60 s hold timer expires (R162). -/
  | holdTimerExpiry
  /-- HIGHWAY_RETURN: the first bit-clock edge after a highway loss (R178). -/
  | highwayReturn
  /-- FRAME_ALIGNMENT: the first frame sync after power-on or a highway loss (R165). -/
  | frameAlignment
  deriving DecidableEq, Repr

end Sys2Proof
end

