-- ==== Sys2Proof/Machine/State.lean ====
section
/-! DEFINITION. The state of the block, piece by piece as the chapters give it, the reasons a step can stop,
and the state after reset. INVENTORY.md, 'State', names the rule of each field. -/

namespace Sys2Proof.Machine

/-! ### Ports (chapter 1) -/

/-- A test's kind; a BASELINE test carries its band (R14, R19). -/
inductive Kind where
  | routine | urgent | baseline (b : Band) | confirm
  deriving DecidableEq, Repr

/-- The fourteen profile fields of R9. -/
structure Profile where
  groupIndex : Nat
  period : Nat
  points : Nat
  pulse : Nat
  averages : Nat
  floorMargin : Nat
  stepThreshold : Nat
  reflectionThreshold : Nat
  smoothing : Nat
  confirmLength : Nat
  bendMargin : Nat
  matchDistance : Nat
  bandAEnable : Bool
  losEnable : Bool
  deriving DecidableEq, Repr

/-- The default value of every field (R9). -/
def Profile.default : Profile where
  groupIndex := 146800
  period := 2
  points := 4096
  pulse := 2
  averages := 12
  floorMargin := 8
  stepThreshold := 20
  reflectionThreshold := 200
  smoothing := 4
  confirmLength := 8
  bendMargin := 100
  matchDistance := 50
  bandAEnable := true
  losEnable := true

/-- The status of a result (R14). -/
inductive Status where
  | done | cancelled | evicted | failed
  deriving DecidableEq, Repr

/-- The cause of a FAILED result (R14). -/
inductive Cause where
  | selector | disturbed
  deriving DecidableEq, Repr

/-- The baseline match of a band: MATCH, NONE or MISMATCH (R14, R109). -/
inductive BaselineMatch where
  | matching | noBaseline | mismatch
  deriving DecidableEq, Repr

/-- The four per-band fields of a result record (R14); an absent field is none. -/
structure BandResult where
  run : Bool
  baseline : Option BaselineMatch
  endIndex : Option Nat
  dark : Option Nat
  deriving DecidableEq, Repr

/-- A result record (R14). -/
structure ResultRecord where
  ticket : Nat
  kind : Kind
  status : Status
  cause : Option Cause
  bands : PerBand BandResult
  findings : Nat
  more : Bool
  tableFull : Bool
  time : Option Nat
  deriving DecidableEq, Repr

/-- A port record (R1). -/
structure PortRecord where
  claimant : Option Client
  profile : Profile
  result : Option ResultRecord
  unread : Bool
  unseen : Bool
  deriving DecidableEq, Repr

/-- A port never claimed, or released (R1, R5). -/
def PortRecord.free : PortRecord where
  claimant := none
  profile := Profile.default
  result := none
  unread := false
  unseen := false

/-! ### The test queue (chapter 2) -/

/-- A set of bands: {B}, {A}, {A, B} or empty (R19, R49). -/
structure BandSet where
  a : Bool
  b : Bool
  deriving DecidableEq, Repr

/-- Where an entry came from (R19). -/
inductive Origin where
  | request | los | analysis
  deriving DecidableEq, Repr

/-- The fields present while an entry is RUNNING (R19). -/
structure RunInfo where
  plan : BandSet
  done : BandSet
  suspended : Bool
  cancelPending : Bool
  deriving DecidableEq, Repr

/-- A test entry (R19). Its state is RUNNING when `run` holds the RUNNING fields and QUEUED otherwise. -/
structure Entry where
  ticket : Nat
  client : Client
  port : PortNo
  kind : Kind
  origin : Origin
  run : Option RunInfo
  deriving DecidableEq, Repr

/-- The test queue: entries oldest first (R19), and the three further pieces of R20. -/
structure TestQueue where
  entries : List Entry
  lastTicket : Option Nat
  pointer : Client
  latches : Tab Bool 32
  deriving DecidableEq, Repr

/-! ### Office time (chapter 3) -/

/-- A quiet window: start and end minute (R46). -/
structure Window where
  start : Nat
  stop : Nat
  deriving DecidableEq, Repr

/-- The office clock, none while UNSET (R43), and the four windows (R46). -/
structure Office where
  clock : Option Nat
  windows : Tab Window 4
  deriving DecidableEq, Repr

/-- A timer on the reference clock: none while stopped, otherwise the time in ns from its start to its expiry
(log entry 2: the expiry itself is a command, and no time runs in the model). -/
abbrev Timer := Option Nat

/-! ### The fibre selector (chapter 4) -/

/-- The selector states, in the order of R55. -/
inductive SelState where
  | lost | homing | moving | settling | settled | fault
  deriving DecidableEq, Repr

/-- The direction of a count (R55, R56). -/
inductive Dir where
  | forward | backward
  deriving DecidableEq, Repr

/-- The selector's state (R55). -/
structure Selector where
  count : Fin 2048
  dir : Dir
  state : SelState
  target : Option PortNo
  pendingTarget : Option PortNo
  changes : Nat
  moveTimer : Timer
  settleTimer : Timer
  homingTimer : Timer
  failures : Nat
  /-- No count has been taken since the move in progress began: the next one is not compared (R60, R62). -/
  fresh : Bool
  deriving DecidableEq, Repr

/-! ### Traces and baselines (chapters 5, 6 and 9) -/

/-- The trace of one band with its end index and dark value (R91). -/
structure Trace where
  points : List TracePoint
  endIndex : Nat
  dark : Nat
  deriving DecidableEq, Repr

/-- What a read of a slot returned to the analysis unit (R108). -/
inductive View where
  | empty
  | valid (c : Capture)
  deriving DecidableEq, Repr

/-! ### The acquisition engine (chapter 5) -/

/-- The engine states, in the order of R75. -/
inductive EngState where
  | idle | position | dark | acquire | analyse | draining | held
  deriving DecidableEq, Repr

/-- The test in hand: the RUNNING entry's ticket, a detached test, or none (R75). -/
inductive Hand where
  | none
  | entry (ticket : Nat)
  | detached
  deriving DecidableEq, Repr

/-- The kind of a block (R75). -/
inductive BlockKind where
  | dark | laser
  deriving DecidableEq, Repr

/-- Where a parked test goes on (R158). -/
inductive ResumePoint where
  | beforeBand | firstLaser | nextLaser
  deriving DecidableEq, Repr

/-- The profile fields a snapshot keeps (R77); its derived values are functions of these (Ops). -/
structure Snapshot where
  groupIndex : Nat
  period : Nat
  points : Nat
  pulse : Nat
  averages : Nat
  floorMargin : Nat
  stepThreshold : Nat
  reflectionThreshold : Nat
  smoothing : Nat
  confirmLength : Nat
  bendMargin : Nat
  deriving DecidableEq, Repr

/-- The last-trace pair (R92). -/
structure LastPair where
  port : PortNo
  ticket : Nat
  kind : Kind
  points : Nat
  period : Nat
  pulse : Nat
  averages : Nat
  groupIndex : Nat
  traces : PerBand (Option Trace)
  deriving DecidableEq, Repr

/-- The acquisition engine's state (R75), the analysis unit's baseline views (R108), the resume point of a
parked test (R158), and the shot in progress: the laser trigger raised for it and whether its samples are
added (R79, R84, R85). A point beyond the end of `sums`, `accs` or `clips` holds 0 or is clear (log entry 22). -/
structure Engine where
  state : EngState
  hand : Hand
  snap : Option Snapshot
  band : Option Band
  kind : BlockKind
  counter : Nat
  blocksDone : Nat
  sums : List Nat
  accs : List Nat
  clips : List Bool
  darkTotal : Nat
  darks : PerBand (Option Nat)
  traces : PerBand (Option Trace)
  views : PerBand (Option View)
  lastPair : Option LastPair
  analysisTimer : Timer
  resume : Option ResumePoint
  trigger : Option Band
  sampling : Bool
  deriving DecidableEq, Repr

/-! ### Findings and faults (chapters 7 and 8) -/

/-- The kinds of finding, coded as in R175. -/
inductive FaultKind where
  | brk | reflection | step | bend
  deriving DecidableEq, Repr

/-- The states of a fault entry (R127, R133). -/
inductive FaultState where
  | new | active | cleared
  deriving DecidableEq, Repr

/-- The bands a step was evaluated on (R121), coded as in R175. -/
inductive BandsEval where
  | bOnly | aOnly | both
  deriving DecidableEq, Repr

/-- A reflection height in tu and in mdB (R113). -/
structure Height where
  tu : Int
  mdB : Int
  deriving DecidableEq, Repr

/-- A finding (R121). A fault entry holds the finding of its last detection (R127, R131). -/
structure Finding where
  kind : FaultKind
  location : Nat
  distance : Nat
  lossPoint : Option Nat
  loss : Option Int
  height : Option Height
  saturated : Option Bool
  bands : Option BandsEval
  deriving DecidableEq, Repr

/-- A fault entry (R127): `det` holds kind, location, distance, loss point, loss, height, saturated and bands
evaluated, the fields R131 takes from a finding. -/
structure FaultEntry where
  id : Nat
  port : PortNo
  state : FaultState
  det : Finding
  spacing : Nat
  firstTicket : Nat
  lastTicket : Nat
  hits : Nat
  misses : Nat
  acked : Bool
  deriving DecidableEq, Repr

/-! ### The baseline store (chapter 9) -/

/-- A staging buffer's condition; held ones keep their contents (R145). -/
inductive Buffer where
  | free
  | reserved
  | held (c : Capture)
  deriving DecidableEq, Repr

/-- The operation of a commit entry (R146). -/
inductive CommitOp where
  | write (buffer : Fin 4)
  | erase
  deriving DecidableEq, Repr

/-- A commit entry (R146): WRITING when `writing`, otherwise QUEUED. -/
structure Commit where
  slot : Fin 64
  op : CommitOp
  writing : Bool
  deriving DecidableEq, Repr

/-- The 64 slots as the memory holds them, none where no complete header stands (R143, R144, R149), the staging
buffers (R145) and the commit queue, head first (R146). -/
structure Store where
  slots : Tab (Option Capture) 64
  buffers : Tab Buffer 4
  commits : List Commit
  /-- The programming time of the WRITING head (R149, R150). -/
  programming : Timer
  deriving DecidableEq, Repr

/-! ### Maintenance hold (chapter 10) -/

/-- The hold unit (R156). -/
structure HoldUnit where
  members : Tab Bool 4
  timer : Timer
  mark : Bool
  deriving DecidableEq, Repr

/-! ### The highway (chapter 11) -/

/-- The frame: no bit clock (R178), waiting for a frame sync, aligned (R165), or aligned anew by a sync that has just
made its bit bit 0 of slot 0, with the first bit of slot 0 still to be taken (R166; log entry 33). -/
inductive FrameState where
  | lost | waiting | aligned | resynced
  deriving DecidableEq, Repr

/-- The assembly buffer: EMPTY, or ASSEMBLING with the words received and the header's length (R169). -/
inductive Assembly where
  | empty
  | assembling (words : List Word) (length : Nat)
  deriving DecidableEq, Repr

/-- A request taken and not yet answered: its code and tag, as received (R169). -/
structure PendingRequest where
  code : Nat
  tag : Tag
  deriving DecidableEq, Repr

/-- One client's link (R169). -/
structure Link where
  assembly : Assembly
  pending : Option PendingRequest
  response : List Word
  sent : Nat
  overrun : Bool
  framing : Bool
  store : Bool
  deriving DecidableEq, Repr

/-- What the outbound slot in progress carries: an idle status word, or a response word, with the pending
request it answered if it is the response's last word (R166, R172). -/
inductive TxKind where
  | idle
  | response (closes : Option PendingRequest)
  deriving DecidableEq, Repr

/-- The outbound word being sent (R165, R172). -/
structure Tx where
  client : Client
  word : Word
  kind : TxKind
  deriving DecidableEq, Repr

/-- The highway interface. -/
structure Highway where
  frame : FrameState
  tx : Option Tx
  links : Tab Link 4
  deriving DecidableEq, Repr

/-! ### The whole -/

/-- The state of the block, chapter by chapter, and the queue of the commands that wait. -/
structure State where
  hw : Highway
  ports : Tab PortRecord 32
  queue : TestQueue
  office : Office
  sel : Selector
  eng : Engine
  faults : List FaultEntry
  store : Store
  hold : HoldUnit
  pending : List Instr
  deriving DecidableEq, Repr

/-- A step of this block has no fault: the manual describes no condition that stops the part, and every
command has its effect in every state. -/
inductive Fault where
  deriving DecidableEq, Repr

/-- The refusals. -/
inductive Refusal where
  /-- Raised by exec for a command that has no meaning yet. Safe: the machine stops. No arm raises it now. -/
  | notModelled (mnemonic : String)
  deriving DecidableEq, Repr

/-! ### Reset -/

/-- A link after power-on (R169). -/
def Link.reset : Link where
  assembly := .empty
  pending := none
  response := []
  sent := 0
  overrun := false
  framing := false
  store := false

/-- The selector after power-on: the values of R55, with homing begun at once and no pending target (R66, R74). -/
def Selector.reset : Selector where
  count := 0
  dir := .forward
  state := .homing
  target := none
  pendingTarget := none
  changes := 0
  moveTimer := none
  settleTimer := none
  homingTimer := some Config.homingTime
  failures := 0
  fresh := false

/-- The engine after power-on (R75, R92, R108). -/
def Engine.reset : Engine where
  state := .idle
  hand := .none
  snap := none
  band := none
  kind := .dark
  counter := 0
  blocksDone := 0
  sums := []
  accs := []
  clips := []
  darkTotal := 0
  darks := ⟨none, none⟩
  traces := ⟨none, none⟩
  views := ⟨none, none⟩
  lastPair := none
  analysisTimer := none
  resume := none
  trigger := none
  sampling := false

/-- The machine right after reset: every block at its power-on values (R1, R20, R43, R46, R55, R74, R75, R126,
R144 to R146, R156, R169), a memory that was never written (R144, log entry 13), and no command waiting. -/
def State.reset : State where
  hw := { frame := .waiting, tx := none, links := Tab.all 4 Link.reset }
  ports := Tab.all 32 PortRecord.free
  queue := { entries := [], lastTicket := none, pointer := 0, latches := Tab.all 32 false }
  office := { clock := none, windows := Tab.all 4 { start := 120, stop := 300 } }
  sel := Selector.reset
  eng := Engine.reset
  faults := []
  store := { slots := Tab.all 64 none, buffers := Tab.all 4 Buffer.free, commits := [], programming := none }
  hold := { members := Tab.all 4 false, timer := none, mark := false }
  pending := []

/-! ### Replacing one part -/

/-- The state with another highway interface. -/
def State.setHw (s : State) (x : Highway) : State := { s with hw := x }
/-- The state with another port table. -/
def State.setPorts (s : State) (x : Tab PortRecord 32) : State := { s with ports := x }
/-- The state with another test queue. -/
def State.setQueue (s : State) (x : TestQueue) : State := { s with queue := x }
/-- The state with another clock and windows. -/
def State.setOffice (s : State) (x : Office) : State := { s with office := x }
/-- The state with another selector. -/
def State.setSel (s : State) (x : Selector) : State := { s with sel := x }
/-- The state with another engine. -/
def State.setEng (s : State) (x : Engine) : State := { s with eng := x }
/-- The state with another fault table. -/
def State.setFaults (s : State) (x : List FaultEntry) : State := { s with faults := x }
/-- The state with another baseline store. -/
def State.setStore (s : State) (x : Store) : State := { s with store := x }
/-- The state with another hold unit. -/
def State.setHold (s : State) (x : HoldUnit) : State := { s with hold := x }
/-- The state with another queue of waiting commands. -/
def State.setPending (s : State) (x : List Instr) : State := { s with pending := x }

end Sys2Proof.Machine
end

