-- ==== Sys2Proof/Machine/TraceArith.lean ====
section
/-! DEFINITION. Trace arithmetic (chapter 6): dead zone, spacing, distance, loss, levels and the end index, on
mathematical integers. -/

namespace Sys2Proof.Machine

/-- The pulse width in ns of a pulse code (R9). -/
def pulseNs : Nat → Nat
  | 0 => 10
  | 1 => 30
  | 2 => 100
  | 3 => 300
  | 4 => 1000
  | 5 => 3000
  | _ => 10000

/-- The dead-zone end i0 = ceil(pulse_ns / T_ns) + 4 with T_ns = 2.5 × 2^p (R102). -/
def deadZoneEnd (pulse period : Nat) : Nat :=
  (2 * pulseNs pulse + (5 * 2 ^ period - 1)) / (5 * 2 ^ period) + 4

/-- The sample spacing S in µm (R104), in the second form of that rule. -/
def spacing (groupIndex period : Nat) : Nat :=
  (2 * (Config.spacingConstant * 2 ^ period) + groupIndex) / (2 * groupIndex)

/-- The distance in dm of a trace index (R105). -/
def distance (s i : Nat) : Nat := (i * s + 50000) / 100000

/-- A level difference in tu as mdB of one-way loss, floored toward minus infinity (R106). -/
def mdB (x : Int) : Int := (x * 1505 + 128) / 256

/-- The piecewise-linear logarithm lg (R98). -/
def lg (s : Nat) : Nat :=
  let e := Nat.log2 s
  256 * e + (if 8 ≤ e then s / 2 ^ (e - 8) - 256 else s * 2 ^ (8 - e) - 256)

/-- The corrected signal of a dark-corrected difference (R96). -/
def correctedSignal (d : Int) : Nat := if 1 ≤ d then d.toNat else 1

/-- The dark-corrected difference d of a sum over N = 2^k shots (R96). -/
def darkDifference (k dark sum : Nat) : Int := (sum : Int) - ((2 ^ k * dark : Nat) : Int)

/-- One point converted: below-floor flag (R97), level (R99), clip flag unchanged (R101). -/
def convertPoint (k floorMargin dark sum : Nat) (clip : Bool) : TracePoint where
  level := (lg (correctedSignal (darkDifference k dark sum)) : Int) - 256 * (k : Int)
  below := decide (darkDifference k dark sum < ((2 ^ k * floorMargin : Nat) : Int))
  clip := clip

/-- Point i of a list of trace points; every trace the part reads has a record for each of its points. -/
def pointAt (points : List TracePoint) (i : Nat) : TracePoint := points.getD i ⟨0, false, false⟩

/-- Eight below-floor points start at i and all lie below P (R103). -/
def darkRunAt (points : List TracePoint) (count i : Nat) : Bool :=
  decide (i + 7 < count) && (List.range 8).all (fun j => (pointAt points (i + j)).below)

/-- The end index E: the smallest index from i0 on at which eight below-floor points start, else P (R103). -/
def endIndexOf (points : List TracePoint) (i0 count : Nat) : Nat :=
  ((List.range count).find? (fun i => decide (i0 ≤ i) && darkRunAt points count i)).getD count

/-! ### The snapshot's derived values (R77) -/

/-- The snapshot of a profile (R77). -/
def Profile.snapshot (p : Profile) : Snapshot where
  groupIndex := p.groupIndex
  period := p.period
  points := p.points
  pulse := p.pulse
  averages := p.averages
  floorMargin := p.floorMargin
  stepThreshold := p.stepThreshold
  reflectionThreshold := p.reflectionThreshold
  smoothing := p.smoothing
  confirmLength := p.confirmLength
  bendMargin := p.bendMargin

/-- Laser blocks per band, N / 256 (R77). -/
def Snapshot.blocks (sn : Snapshot) : Nat := 2 ^ sn.averages / Config.shotsPerBlock

/-- The dead-zone end of the snapshot (R77). -/
def Snapshot.i0 (sn : Snapshot) : Nat := deadZoneEnd sn.pulse sn.period

/-- The sample spacing of the snapshot (R77). -/
def Snapshot.spacing (sn : Snapshot) : Nat := Machine.spacing sn.groupIndex sn.period

/-- The shot period P × T + 10 µs in ns (R77, R79); P is even, so the halves of T add up to whole ns. -/
def Snapshot.shotPeriod (sn : Snapshot) : Nat := sn.points * (5 * 2 ^ sn.period) / 2 + Config.recoveryTime

/-- A band's accumulators converted to its working trace, with its end index (R83, R95). -/
def convertBand (sn : Snapshot) (dark : Nat) (accs : List Nat) (clips : List Bool) : Trace :=
  let points := (List.range sn.points).map (fun i =>
    convertPoint sn.averages sn.floorMargin dark (accs.getD i 0) (clips.getD i false))
  { points := points, endIndex := endIndexOf points sn.i0 sn.points, dark := dark }

end Sys2Proof.Machine
end

