-- ==== Sys2Proof/Machine/Analysis.lean ====
section
/-! DEFINITION. Comparison and findings (chapter 7): what the analysis unit makes of the working traces and the
baseline views of one test. It keeps nothing between tests, so all of it is a function of them. -/

namespace Sys2Proof.Machine

/-! ### Baselines of a test (7.1) -/

/-- The baseline match of a view (R109): P, p and pulse code alone are compared. -/
def View.matchWith (v : View) (sn : Snapshot) : BaselineMatch :=
  match v with
  | .empty => .noBaseline
  | .valid c =>
    if c.points = sn.points ∧ c.period = sn.period ∧ c.pulse = sn.pulse then .matching else .mismatch

/-- A band that takes part in the comparison: its working trace and its baseline (R109). -/
structure BandInput where
  live : Trace
  base : Capture

/-- The band's part in the comparison: only a band whose match is MATCH has one (R109, R110). -/
def bandInput (sn : Snapshot) (trace : Option Trace) (view : Option View) : Option BandInput :=
  match trace, view with
  | some t, some (.valid c) =>
    if (View.valid c).matchWith sn = .matching then some { live := t, base := c } else none
  | _, _ => none

/-- The primary band (R110). -/
def primaryBand (x : PerBand (Option BandInput)) : Option Band :=
  if x.b.isSome then some .B else if x.a.isSome then some .A else none

/-- The smaller of the live and the baseline end index, min(E_live, E_b) (R112). -/
def BandInput.lightEnd (x : BandInput) : Nat := min x.live.endIndex x.base.endIndex

/-! ### Reflective runs (R113) -/

/-- The reflection excess rv(i) = L(i) − B(i) (R113). -/
def BandInput.excess (x : BandInput) (i : Nat) : Int :=
  (pointAt x.live.points i).level - (pointAt x.base.levels i).level

/-- A reflective run: its indexes in order, its height in tu, and its saturated flag (R113). -/
structure ReflRun where
  points : List Nat
  height : Int
  saturated : Bool

/-- The run's first index (R113). -/
def ReflRun.start (r : ReflRun) : Nat := r.points.headD 0

/-- Two runs share an index (R114). -/
def ReflRun.meets (r q : ReflRun) : Bool := r.points.any (fun i => q.points.contains i)

/-- The maximal stretches of a rising list of indexes on which `p` holds; `cur` is the stretch being read,
newest first. -/
def stretches (p : Nat → Bool) : List Nat → List Nat → List (List Nat)
  | [], cur => if cur.isEmpty then [] else [cur.reverse]
  | i :: rest, cur =>
    if p i then stretches p rest (i :: cur)
    else if cur.isEmpty then stretches p rest []
    else cur.reverse :: stretches p rest []

/-- The reflection range: from i0 up to min(E_live, E_b) + 7, not beyond P − 1 (R113). -/
def BandInput.reflectionRange (x : BandInput) (sn : Snapshot) : List Nat :=
  (List.range sn.points).filter (fun i => decide (sn.i0 ≤ i) && decide (i ≤ x.lightEnd + 7))

/-- A run made of a stretch of reflective points (R113). -/
def BandInput.toRun (x : BandInput) (points : List Nat) : ReflRun where
  points := points
  height := points.foldl (fun m i => max m (x.excess i)) (x.excess (points.headD 0))
  saturated := points.any (fun i => (pointAt x.live.points i).clip)

/-- The reflective runs of a band, in rising order (R113). -/
def BandInput.runs (x : BandInput) (sn : Snapshot) : List ReflRun :=
  (stretches (fun i => decide ((sn.reflectionThreshold : Int) ≤ x.excess i)) (x.reflectionRange sn) []).map x.toRun

/-! ### Breaks (7.2) -/

/-- A break: its location, and its own run when it is reflective (R111). -/
structure BreakAt where
  location : Nat
  run : Option ReflRun

/-- The band break (R111). -/
def BandInput.bandBreak (x : BandInput) (sn : Snapshot) : Option BreakAt :=
  if x.live.endIndex + 8 < x.base.endIndex then
    match (x.runs sn).find? (fun r =>
        decide (max sn.i0 (x.live.endIndex - 8) ≤ r.start) && decide (r.start < x.live.endIndex)) with
    | some r => some { location := r.start, run := some r }
    | none => some { location := x.live.endIndex, run := none }
  else none

/-- The band break of a band, if it takes part. -/
def breakOf (sn : Snapshot) (x : PerBand (Option BandInput)) (band : Band) : Option BreakAt :=
  (x.at band).bind (fun y => y.bandBreak sn)

/-- The test's break: the primary band's, otherwise the other band's (R112). -/
def testBreak (sn : Snapshot) (x : PerBand (Option BandInput)) (primary : Band) : Option BreakAt :=
  match breakOf sn x primary with
  | some b => some b
  | none => breakOf sn x primary.other

/-- The band's scan limit: min(E_live, E_b), and not beyond the test's break (R112). -/
def BandInput.scanLimit (x : BandInput) (brk : Option BreakAt) : Nat :=
  match brk with
  | some b => min x.lightEnd b.location
  | none => x.lightEnd

/-- The analysed limit: the break location, or min(E_live, E_b) of the primary band (R112). -/
def analysedLimit (x : BandInput) (brk : Option BreakAt) : Nat :=
  match brk with
  | some b => b.location
  | none => x.lightEnd

/-! ### Reflections (R114) -/

/-- A run is kept from the report by the break: it starts at or beyond it, or shares an index with the break's
own run (R114). The break is the test's; the own run of the other band's break that R112 leaves unreported hides nothing
(DESIGN CHOICE, log entry 34). -/
def BreakAt.hides (b : BreakAt) (r : ReflRun) : Bool :=
  decide (b.location ≤ r.start) || (match b.run with | some own => r.meets own | none => false)

/-- The runs reported as REFLECTION findings: the primary band's, and those of the other band that meet no run of
the primary band, less those the break hides (R114). -/
def reportedRuns (primary other : List ReflRun) (brk : Option BreakAt) : List ReflRun :=
  let shown := fun (r : ReflRun) => match brk with | some b => !(b.hides r) | none => true
  primary.filter shown ++ other.filter (fun r => shown r && !(primary.any (fun q => r.meets q)))

/-! ### The step scan (7.4) -/

/-- A point is masked: it lies in a reflective run of the band, or is clipped live or in the baseline (R115). -/
def BandInput.masked (x : BandInput) (runs : List ReflRun) (i : Nat) : Bool :=
  runs.any (fun r => r.points.contains i) || (pointAt x.live.points i).clip || (pointAt x.base.levels i).clip

/-- The deficits over a list of indexes, a masked point holding the last unmasked one (R115). -/
def heldDeficits (masked : Nat → Bool) (raw : Nat → Int) : List Nat → Int → List Int
  | [], _ => []
  | i :: rest, last =>
    let v := if masked i then last else raw i
    v :: heldDeficits masked raw rest v

/-- The deficits dv of the band over i0 ≤ i < limit; before any unmasked point they hold 0 (R115). -/
def BandInput.deficits (x : BandInput) (sn : Snapshot) (limit : Nat) : List Int :=
  heldDeficits (x.masked (x.runs sn)) (fun i => -(x.excess i)) (List.range' sn.i0 (limit - sn.i0)) 0

/-- The smoothed deficit dv_s, with the deficits of i0 ≤ i < limit given; none where it is undefined (R116). -/
def smoothed (sn : Snapshot) (limit : Nat) (deficits : List Int) (i : Nat) : Option Int :=
  if sn.i0 ≤ i ∧ i + sn.smoothing ≤ limit then
    some (((deficits.drop (i - sn.i0)).take sn.smoothing).sum / (sn.smoothing : Int))
  else none

/-- The band's smoothed deficit under its scan limit (R116, R119). -/
def BandInput.smoothedAt (x : BandInput) (sn : Snapshot) (brk : Option BreakAt) (i : Nat) : Option Int :=
  smoothed sn (x.scanLimit brk) (x.deficits sn (x.scanLimit brk)) i

/-- A step of the scan: location, loss point, and loss in tu (R117). -/
structure ScanStep where
  location : Nat
  lossPoint : Nat
  loss : Int
  deriving DecidableEq, Repr

/-- `o` begins a confirming stretch: C indexes, all defined and at least T_s above the reference (R117). -/
def confirmed (ds : Nat → Option Int) (sn : Snapshot) (ref : Int) (o : Nat) : Bool :=
  (List.range sn.confirmLength).all (fun j =>
    match ds (o + j) with
    | some v => decide ((sn.stepThreshold : Int) ≤ v - ref)
    | none => false)

/-- The steps from scan position `o` on with the given reference (R117). The first argument bounds the indexes
still to be looked at. -/
def stepScan (ds : Nat → Option Int) (sn : Snapshot) : Nat → Nat → Int → List ScanStep
  | 0, _, _ => []
  | n + 1, o, ref =>
    if confirmed ds sn ref o then
      let top := (ds (o + sn.confirmLength - 1)).getD ref
      { location := o + (sn.smoothing - 1) / 2, lossPoint := o + sn.confirmLength - 1, loss := top - ref }
        :: stepScan ds sn n (o + sn.confirmLength) top
    else stepScan ds sn n (o + 1) ref

/-- The steps of the primary band; none when dv_s(i0) is undefined (R117). -/
def BandInput.steps (x : BandInput) (sn : Snapshot) (brk : Option BreakAt) : List ScanStep :=
  match x.smoothedAt sn brk sn.i0 with
  | none => []
  | some ref => stepScan (x.smoothedAt sn brk) sn (x.scanLimit brk) sn.i0 ref

/-! ### Bend discrimination (7.5) -/

/-- Band A's loss in mdB at a loss point, from the dead-zone end; none where band A cannot be read (R119). -/
def BandInput.lossAt (x : BandInput) (sn : Snapshot) (brk : Option BreakAt) (lossPoint : Nat) : Option Int :=
  match x.smoothedAt sn brk sn.i0, x.smoothedAt sn brk lossPoint with
  | some ref, some v => some (mdB (v - ref))
  | _, _ => none

/-- The weighing of a loss in mdB against band A's: BEND when it exceeds it by M_b or more (R119, R124). -/
def weigh (sn : Snapshot) (loss lossA : Int) : FaultKind :=
  if (sn.bendMargin : Int) ≤ loss - lossA then .bend else .step

/-- Kind and bands evaluated of a step (R118, R119). -/
def classify (sn : Snapshot) (x : PerBand (Option BandInput)) (primary : Band) (brk : Option BreakAt)
    (st : ScanStep) : FaultKind × BandsEval :=
  match primary with
  | .A => (.step, .aOnly)
  | .B =>
    match x.a.bind (fun y => y.lossAt sn brk st.lossPoint) with
    | some lossA => (weigh sn (mdB st.loss) lossA, .both)
    | none => (.step, .bOnly)

/-! ### The findings list (7.6) -/

/-- The height of a run in both units (R113). -/
def ReflRun.heights (r : ReflRun) : Height := { tu := r.height, mdB := mdB r.height }

/-- The BREAK finding (R112, R121). -/
def breakFinding (sn : Snapshot) (b : BreakAt) : Finding where
  kind := .brk
  location := b.location
  distance := distance sn.spacing b.location
  lossPoint := none
  loss := none
  height := b.run.map (fun r => r.heights)
  saturated := b.run.map (fun r => r.saturated)
  bands := none

/-- A REFLECTION finding (R114, R121). -/
def reflectionFinding (sn : Snapshot) (r : ReflRun) : Finding where
  kind := .reflection
  location := r.start
  distance := distance sn.spacing r.start
  lossPoint := none
  loss := none
  height := some r.heights
  saturated := some r.saturated
  bands := none

/-- A STEP or BEND finding (R118, R121). -/
def stepFinding (sn : Snapshot) (x : PerBand (Option BandInput)) (primary : Band) (brk : Option BreakAt)
    (st : ScanStep) : Finding where
  kind := (classify sn x primary brk st).1
  location := st.location
  distance := distance sn.spacing st.location
  lossPoint := some st.lossPoint
  loss := some (mdB st.loss)
  height := none
  saturated := none
  bands := some (classify sn x primary brk st).2

/-- `f` placed behind every finding of the list at its location or nearer (R121). -/
def insertFinding (f : Finding) : List Finding → List Finding
  | [] => [f]
  | g :: rest => if g.location ≤ f.location then g :: insertFinding f rest else f :: g :: rest

/-- The findings in increasing order of location, those that come first in the list first at equal location
(R121). -/
def orderFindings (fs : List Finding) : List Finding := fs.foldl (fun acc f => insertFinding f acc) []

/-- All findings of a test with a primary band, the break first (R121), before the limit of eight. A CONFIRM test
makes no step scan (R115, R123). -/
def allFindings (sn : Snapshot) (kind : Kind) (x : PerBand (Option BandInput)) (primary : Band)
    (main : BandInput) : List Finding :=
  let brk := testBreak sn x primary
  let otherRuns := match x.at primary.other with | some y => y.runs sn | none => []
  let reflections := (reportedRuns (main.runs sn) otherRuns brk).map (reflectionFinding sn)
  let steps := if kind = .confirm then [] else (main.steps sn brk).map (stepFinding sn x primary brk)
  (match brk with | some b => [breakFinding sn b] | none => []) ++ orderFindings (reflections ++ steps)

/-- What the analysis of one test hands on (R122): the baselines, the findings list of at most eight with MORE, the
miss count flag, the analysed limit and whether there is a break, and the reclassifications of a CONFIRM. -/
structure Report where
  baselines : PerBand (Option BaselineMatch)
  findings : List Finding
  more : Bool
  missCount : Bool
  limit : Nat
  hasBreak : Bool
  reclass : List (Nat × FaultKind)
  deriving DecidableEq, Repr

/-- The report of a test that was not compared: a BASELINE test, or any test that ends other than DONE (R14,
R122). -/
def Report.none : Report where
  baselines := ⟨Option.none, Option.none⟩
  findings := []
  more := false
  missCount := false
  limit := 0
  hasBreak := false
  reclass := []

/-- The new kind a CONFIRM gives one fault entry, or none when it leaves it unchanged (R124). -/
def reclassified (sn : Snapshot) (p : PortNo) (x : BandInput) (brk : Option BreakAt) (e : FaultEntry) :
    Option (Nat × FaultKind) :=
  if e.port = p ∧ e.det.kind = .step ∧ e.det.bands = some .bOnly ∧ e.spacing = sn.spacing then
    match e.det.lossPoint, e.det.loss with
    | some lp, some loss => (x.lossAt sn brk lp).map (fun lossA => (e.id, weigh sn loss lossA))
    | _, _ => none
  else none

/-- The analysis of a ROUTINE, URGENT or CONFIRM test (R108 to R125); the fault table is read for a CONFIRM's
reclassifications alone (R124). -/
def analyse (sn : Snapshot) (kind : Kind) (p : PortNo) (traces : PerBand (Option Trace))
    (views : PerBand (Option View)) (table : List FaultEntry) : Report :=
  let x : PerBand (Option BandInput) := ⟨bandInput sn traces.a views.a, bandInput sn traces.b views.b⟩
  let baselines : PerBand (Option BaselineMatch) :=
    ⟨views.a.map (fun v => v.matchWith sn), views.b.map (fun v => v.matchWith sn)⟩
  match primaryBand x with
  | none => { Report.none with baselines := baselines }
  | some primary =>
    match x.at primary with
    | none => { Report.none with baselines := baselines }
    | some main =>
      let brk := testBreak sn x primary
      let all := allFindings sn kind x primary main
      { baselines := baselines
        findings := all.take Config.findingsLimit
        more := decide (Config.findingsLimit < all.length)
        missCount := decide (kind ≠ .confirm)
        limit := analysedLimit main brk
        hasBreak := brk.isSome
        reclass := if kind = .confirm then table.filterMap (reclassified sn p main brk) else [] }

/-- The list holds a STEP with bands evaluated B only, which asks for a CONFIRM (R41, R122). -/
def Report.asksConfirm (r : Report) : Bool :=
  r.findings.any (fun f => decide (f.kind = .step) && decide (f.bands = some .bOnly))

end Sys2Proof.Machine
end

