-- ==== Sys2Proof/Machine/FaultTable.lean ====
section
/-! DEFINITION. The fault table (chapter 8): ids, matching, update, creation, misses, reclassification, and the
fold of one test. -/

namespace Sys2Proof.Machine

/-- The lowest entry id that no entry holds, below the capacity (R128). -/
def freeId (table : List FaultEntry) : Option Nat :=
  (List.range Config.faultCapacity).find? (fun i => table.all (fun e => decide (e.id ≠ i)))

/-- The class of a kind: BREAK, REFLECTION, or STEP with BEND together (R130). -/
def sameClass : FaultKind → FaultKind → Bool
  | .brk, .brk => true
  | .reflection, .reflection => true
  | .step, .step => true
  | .step, .bend => true
  | .bend, .step => true
  | .bend, .bend => true
  | _, _ => false

/-- The absolute difference of two distances (R130). -/
def distanceDiff (a b : Nat) : Nat := (a - b) + (b - a)

/-- What a fold works on: the table, the ids already matched or created by it, whether a finding could not be
stored, and whether an entry was announced (R129, R130, R137). -/
structure Fold where
  table : List FaultEntry
  touched : List Nat
  full : Bool
  announced : Bool
  deriving DecidableEq, Repr

/-- The entry is a candidate for the finding (R130). -/
def isCandidate (p : PortNo) (matchDistance : Nat) (touched : List Nat) (f : Finding) (e : FaultEntry) : Bool :=
  decide (e.port = p) && sameClass e.det.kind f.kind
    && decide (distanceDiff e.det.distance f.distance ≤ matchDistance) && !(touched.contains e.id)

/-- `a` is the better match of two candidates: nearer, or as near with the lower id (R130). -/
def betterMatch (f : Finding) (a b : FaultEntry) : Bool :=
  decide (distanceDiff a.det.distance f.distance < distanceDiff b.det.distance f.distance)
    || (decide (distanceDiff a.det.distance f.distance = distanceDiff b.det.distance f.distance)
      && decide (a.id < b.id))

/-- The best of the candidates (R130). -/
def bestMatch (f : Finding) : List FaultEntry → Option FaultEntry
  | [] => none
  | e :: rest =>
    match bestMatch f rest with
    | none => some e
    | some b => if betterMatch f b e then some b else some e

/-- The entry re-found by a finding (R131): ACTIVE by the table of R133, also where a NEW or CLEARED entry changes its
kind between BEND and STEP (DESIGN CHOICE, log entry 40: the last sentences of R133 have a change of kind keep the
state). -/
def FaultEntry.refound (e : FaultEntry) (f : Finding) (s ticket : Nat) : FaultEntry :=
  { e with
    det := f
    spacing := s
    lastTicket := ticket
    hits := min (e.hits + 1) Config.hitsLimit
    misses := 0
    state := .active }

/-- A re-finding announces the entry: its state, kind or bands evaluated change (R137). -/
def refindingAnnounces (e : FaultEntry) (f : Finding) : Bool :=
  decide (e.state ≠ .active) || decide (e.det.kind ≠ f.kind) || decide (e.det.bands ≠ f.bands)

/-- The entry with its acknowledged flag cleared if it is announced (R137). -/
def FaultEntry.announce (e : FaultEntry) (yes : Bool) : FaultEntry := { e with acked := e.acked && !yes }

/-- The table with one entry, named by its id, replaced in place (R128). -/
def replaceEntry (table : List FaultEntry) (e : FaultEntry) : List FaultEntry :=
  table.map (fun x => if x.id = e.id then e else x)

/-- The table with an entry, named by its id, gone; the later ones close up (R126). -/
def removeEntry (table : List FaultEntry) (id : Nat) : List FaultEntry :=
  table.filter (fun x => decide (x.id ≠ id))

/-- The CLEARED entry oldest in creation order (R132). -/
def oldestCleared (table : List FaultEntry) : Option FaultEntry :=
  table.find? (fun e => decide (e.state = .cleared))

/-- The table with room for one more entry: as it is, or less the oldest CLEARED entry; none when it is full and
no entry is CLEARED (R132). -/
def makeRoom (table : List FaultEntry) : Option (List FaultEntry) :=
  if table.length < Config.faultCapacity then some table
  else (oldestCleared table).map (fun e => removeEntry table e.id)

/-- A new entry (R132). -/
def newEntry (id : Nat) (p : PortNo) (f : Finding) (s ticket : Nat) : FaultEntry where
  id := id
  port := p
  state := .new
  det := f
  spacing := s
  firstTicket := ticket
  lastTicket := ticket
  hits := 1
  misses := 0
  acked := false

/-- A finding with no candidate creates an entry, or is not stored (R132). -/
def Fold.create (x : Fold) (p : PortNo) (f : Finding) (s ticket : Nat) : Fold :=
  match makeRoom x.table with
  | none => { x with full := true }
  | some table =>
    match freeId table with
    | none => { x with full := true }
    | some id =>
      { x with table := table ++ [newEntry id p f s ticket], touched := id :: x.touched, announced := true }

/-- One finding taken: matched and updated, or created (R129 stage 1, R130 to R132). -/
def Fold.take (p : PortNo) (matchDistance s ticket : Nat) (x : Fold) (f : Finding) : Fold :=
  match bestMatch f (x.table.filter (isCandidate p matchDistance x.touched f)) with
  | some e =>
    { x with
      table := replaceEntry x.table ((e.refound f s ticket).announce (refindingAnnounces e f))
      touched := e.id :: x.touched
      announced := x.announced || refindingAnnounces e f }
  | none => x.create p f s ticket

/-- The miss limit of a kind (R133). -/
def missLimit : FaultKind → Nat
  | .brk => 1
  | _ => 3

/-- The entry lies below the analysed limit: by index at equal S, by distance otherwise (R134). -/
def inRange (s limit : Nat) (e : FaultEntry) : Bool :=
  if e.spacing = s then decide (e.det.location < limit)
  else decide (e.det.distance < distance s limit)

/-- The test missed this entry of its port: it did not match or create it, it is not CLEARED, and it is in range,
or is a BREAK and the test has no break (R134, R135). -/
def isMissed (p : PortNo) (s limit : Nat) (hasBreak : Bool) (touched : List Nat) (e : FaultEntry) : Bool :=
  decide (e.port = p) && !(touched.contains e.id) && decide (e.state ≠ .cleared)
    && (if e.det.kind = .brk ∧ hasBreak = false then true else inRange s limit e)

/-- The entry after one miss (R133, R137). -/
def FaultEntry.miss (e : FaultEntry) : FaultEntry :=
  if missLimit e.det.kind ≤ e.misses + 1 then { e with misses := e.misses + 1, state := .cleared, acked := false }
  else { e with misses := e.misses + 1 }

/-- Stage 2 of the fold: misses are counted (R129, R134, R135). -/
def Fold.countMisses (x : Fold) (p : PortNo) (s limit : Nat) (hasBreak : Bool) : Fold :=
  let missed := isMissed p s limit hasBreak x.touched
  { x with
    table := x.table.map (fun e => if missed e then e.miss else e)
    announced := x.announced || x.table.any (fun e => missed e && decide (e.miss.state ≠ e.state)) }

/-- The entry is still a STEP with bands evaluated B only (R136). -/
def stillUnclassified (e : FaultEntry) : Bool := decide (e.det.kind = .step) && decide (e.det.bands = some .bOnly)

/-- The entry reclassified (R136, R137). -/
def FaultEntry.reclassify (e : FaultEntry) (k : FaultKind) : FaultEntry :=
  { e with det := { e.det with kind := k, bands := some .both }, acked := false }

/-- One reclassification applied (R136). -/
def Fold.reclassify (x : Fold) (r : Nat × FaultKind) : Fold :=
  { x with
    table := x.table.map (fun e => if e.id = r.1 && stillUnclassified e then e.reclassify r.2 else e)
    announced := x.announced || x.table.any (fun e => decide (e.id = r.1) && stillUnclassified e) }

/-- The fold of one test into the table: findings, misses, reclassifications, in this order (R129). -/
def foldTest (table : List FaultEntry) (p : PortNo) (matchDistance s ticket : Nat) (r : Report) : Fold :=
  let x := r.findings.foldl (Fold.take p matchDistance s ticket)
    { table := table, touched := [], full := false, announced := false }
  let y := if r.missCount then x.countMisses p s r.limit r.hasBreak else x
  r.reclass.foldl Fold.reclassify y

end Sys2Proof.Machine
end

