-- ==== Sys2Proof/Machine/Selector.lean ====
section
/-! DEFINITION. The fibre selector (chapter 4) on its own state: counting, moves, settling, homing, disturbances,
and what it reports to the engine. Each function answers the new selector and its report. -/

namespace Sys2Proof.Machine

/-- What the selector reports at an event. -/
inductive SelReport where
  /-- Nothing to report. -/
  | quiet
  /-- Arrival: settled at the target (R59, R64). -/
  | arrival
  /-- Positioning failure (R65, R68). -/
  | failure
  /-- A disturbance with the engine not HELD (R70). -/
  | disturbed
  /-- Rotation while the engine is HELD (R71). -/
  | rotation
  /-- An encoder error while SETTLED (R57). -/
  | lostSettled
  deriving DecidableEq, Repr

/-- The target position of a port, 64 × port (R55). -/
def targetCount (p : PortNo) : Fin 2048 := ⟨64 * p.val, by omega⟩

/-- The distance of two counts: the shorter way round the turn (R55). -/
def countDistance (a b : Fin 2048) : Nat := min (a - b).val (b - a).val

/-- The count is more than 1 from the target position (R64, R70, R71). -/
def Selector.offTarget (sel : Selector) : Bool :=
  match sel.target with
  | some p => decide (1 < countDistance sel.count (targetCount p))
  | none => false

/-- A move to a port begins (R60). -/
def Selector.beginMove (sel : Selector) (p : PortNo) : Selector :=
  { sel with
    target := some p
    changes := 0
    moveTimer := some Config.moveTime
    settleTimer := if sel.count = targetCount p then some Config.settleTime else none
    state := if sel.count = targetCount p then .settling else .moving
    fresh := true }

/-- Homing begins with a pending target or none (R66). -/
def Selector.beginHoming (sel : Selector) (pending : Option PortNo) : Selector :=
  { sel with
    state := .homing
    target := none
    pendingTarget := pending
    moveTimer := none
    settleTimer := none
    homingTimer := some Config.homingTime }

/-- A position request (R59). -/
def Selector.request (sel : Selector) (p : PortNo) : Selector × SelReport :=
  match sel.state with
  | .settled =>
    if sel.target = some p ∧ sel.offTarget = false then (sel, .arrival) else (sel.beginMove p, .quiet)
  | .moving => if sel.target = some p then (sel, .quiet) else (sel.beginMove p, .quiet)
  | .settling => if sel.target = some p then (sel, .quiet) else (sel.beginMove p, .quiet)
  | .homing => ({ sel with pendingTarget := some p }, .quiet)
  | .lost => (sel.beginHoming (some p), .quiet)
  | .fault => (sel, .failure)

/-- A move fails: LOST with target, count and direction changes kept (R65). -/
def Selector.failMove (sel : Selector) : Selector :=
  { sel with state := .lost, moveTimer := none, settleTimer := none }

/-- A homing attempt fails (R68). -/
def Selector.failHoming (sel : Selector) : Selector × SelReport :=
  let n := min 2 (sel.failures + 1)
  ({ sel with
     state := if n = 2 then .fault else .lost
     homingTimer := none
     failures := n
     pendingTarget := none
     target := none },
   if sel.pendingTarget.isSome then .failure else .quiet)

/-- A count or correction that lands on the target position matches (R61). -/
def Selector.matchCheck (sel : Selector) : Selector :=
  match sel.target with
  | some p =>
    if sel.count = targetCount p then { sel with state := .settling, settleTimer := some Config.settleTime } else sel
  | none => sel

/-- The settle check (R64). -/
def Selector.settleCheck (sel : Selector) : Selector :=
  if sel.offTarget then { sel with state := .moving, settleTimer := none } else sel

/-- The disturbance check (R70), or rotation while the engine is HELD (R71). -/
def Selector.disturbanceCheck (sel : Selector) (held : Bool) : Selector × SelReport :=
  if sel.offTarget then
    match held, sel.target with
    | true, _ => (sel, .rotation)
    | false, some p => (sel.beginMove p, .disturbed)
    | false, none => (sel, .quiet)
  else (sel, .quiet)

/-- The direction an edge counts in (R56). -/
def edgeDir (e : EncoderEdge) : Dir :=
  match e.line, e.rises, e.otherHigh with
  | .A, true, false => .forward
  | .A, true, true => .backward
  | .A, false, true => .forward
  | .A, false, false => .backward
  | .B, true, true => .forward
  | .B, true, false => .backward
  | .B, false, false => .forward
  | .B, false, true => .backward

/-- The count after one count in a direction, wrapping at 2047 and at 0 (R56). -/
def countStep (count : Fin 2048) : Dir → Fin 2048
  | .forward => count + 1
  | .backward => count - 1

/-- The count and the direction flag rewritten by one count (R56). -/
def Selector.counted (sel : Selector) (dir : Dir) : Selector :=
  { sel with count := countStep sel.count dir, dir := dir, fresh := false }

/-- A count taken while MOVING is a reversal (R62). -/
def Selector.isReversal (sel : Selector) (dir : Dir) : Bool := !sel.fresh && decide (dir ≠ sel.dir)

/-- One count (R56), with the match (R61), the reversal and HUNT (R62), the settle check (R64) and the disturbance
check (R70, R71). A third reversal is a HUNT even where its count is the target position (log entry 8). -/
def Selector.takeCount (sel : Selector) (dir : Dir) (held : Bool) : Selector × SelReport :=
  match sel.state with
  | .moving =>
    let changes := if sel.isReversal dir then sel.changes + 1 else sel.changes
    if Config.huntReversals ≤ changes then (({ sel.counted dir with changes := changes }).failMove, .failure)
    else (({ sel.counted dir with changes := changes }).matchCheck, .quiet)
  | .settling => ((sel.counted dir).settleCheck, .quiet)
  | .settled => (sel.counted dir).disturbanceCheck held
  | .lost => (sel.counted dir, .quiet)
  | .homing => (sel.counted dir, .quiet)
  | .fault => (sel.counted dir, .quiet)

/-- An encoder error (R57). -/
def Selector.takeError (sel : Selector) : Selector × SelReport :=
  match sel.state with
  | .lost => (sel, .quiet)
  | .fault => (sel, .quiet)
  | .homing => sel.failHoming
  | .moving => (sel.failMove, .failure)
  | .settling => (sel.failMove, .failure)
  | .settled => ({ sel with state := .lost }, .lostSettled)

/-- The count lies within ±2 of 0 (R55, R58). -/
def Selector.nearIndex (sel : Selector) : Bool := decide (countDistance sel.count 0 ≤ 2)

/-- Homing completes: the origin is found and a move to the pending target, or to port 0, begins (R67). -/
def Selector.completeHoming (sel : Selector) : Selector :=
  ({ sel with count := 0, homingTimer := none, failures := 0, pendingTarget := none }).beginMove
    (sel.pendingTarget.getD 0)

/-- An index edge (R58): homing completes, or a slip is corrected and its checks are made. -/
def Selector.takeIndex (sel : Selector) (held : Bool) : Selector × SelReport :=
  match sel.state with
  | .homing => (sel.completeHoming, .quiet)
  | .moving => (if sel.nearIndex then sel else ({ sel with count := 0 }).matchCheck, .quiet)
  | .settling => (if sel.nearIndex then sel else ({ sel with count := 0 }).settleCheck, .quiet)
  | .settled => if sel.nearIndex then (sel, .quiet) else ({ sel with count := 0 }).disturbanceCheck held
  | .lost => (sel, .quiet)
  | .fault => (sel, .quiet)

/-- The move timer expires: a TIMEOUT while MOVING or SETTLING (R63). -/
def Selector.moveExpires (sel : Selector) : Selector × SelReport :=
  if sel.moveTimer.isSome ∧ (sel.state = .moving ∨ sel.state = .settling) then (sel.failMove, .failure)
  else (sel, .quiet)

/-- The settle timer expires: SETTLED, and arrival is reported (R64). -/
def Selector.settleExpires (sel : Selector) : Selector × SelReport :=
  if sel.settleTimer.isSome ∧ sel.state = .settling then
    ({ sel with state := .settled, settleTimer := none, moveTimer := none }, .arrival)
  else (sel, .quiet)

/-- The homing timer expires (R68). -/
def Selector.homingExpires (sel : Selector) : Selector × SelReport :=
  if sel.homingTimer.isSome ∧ sel.state = .homing then sel.failHoming else (sel, .quiet)

/-- The re-drive deferred by a hold, taken when the hold set becomes empty (R71). -/
def Selector.deferredMove (sel : Selector) : Selector :=
  match sel.target with
  | some p => if sel.state = .settled ∧ sel.offTarget = true then sel.beginMove p else sel
  | none => sel

/-- The laser permit: granted in SETTLED and in no other state (R72). -/
def Selector.permit (sel : Selector) : Bool := decide (sel.state = .settled)

/-! ### The motor's commands (R55, R61, R66) -/

/-- The commands to the motor stage: run, direction, creep speed select. -/
structure Motor where
  run : Bool
  dir : Dir
  creep : Bool
  deriving DecidableEq, Repr

/-- The shorter direction from the count to the target position; 1024 either way is taken forward (R61). -/
def Selector.driveDir (sel : Selector) (p : PortNo) : Dir :=
  if (targetCount p - sel.count).val ≤ 1024 then .forward else .backward

/-- The motor's commands in each state (R55): forward at creep while HOMING, toward the target while MOVING, at
creep from 16 counts on (R61), stopped otherwise, with the direction forward and the creep speed off (DESIGN CHOICE, log
entry 36: the manual says only that the motor is stopped). -/
def Selector.motor (sel : Selector) : Motor :=
  match sel.state, sel.target with
  | .homing, _ => { run := true, dir := .forward, creep := true }
  | .moving, some p =>
    { run := true
      dir := sel.driveDir p
      creep := decide (countDistance sel.count (targetCount p) ≤ Config.creepDistance) }
  | _, _ => { run := false, dir := .forward, creep := false }

end Sys2Proof.Machine
end

