-- ==== Sys2Proof/Machine/Store.lean ====
section
/-! DEFINITION. The baseline store (chapter 9): slots, staging buffers, the commit queue, reads through it, and
the programming of its head. -/

namespace Sys2Proof.Machine

/-- Slot 2 × port + band, band A = 0 and band B = 1 (R143). -/
def slotOf (p : PortNo) (b : Band) : Fin 64 :=
  match b with
  | .A => ⟨2 * p.val, by omega⟩
  | .B => ⟨2 * p.val + 1, by omega⟩

/-- The port of a slot, floor(s / 2) (R143). -/
def slotPort (slot : Fin 64) : PortNo := ⟨slot.val / 2, by omega⟩

/-- The band of a slot: A when its number is even (R143). -/
def slotBand (slot : Fin 64) : Band := if slot.val % 2 = 0 then .A else .B

/-- A header complete for its slot: own port and band, and every field in its range (R144). -/
def completeFor (slot : Fin 64) (c : Capture) : Bool :=
  decide (c.port = slotPort slot) && decide (c.band = slotBand slot)
    && [1024, 2048, 4096, 8192, 16384].contains c.points && decide (c.period ≤ 5) && decide (c.pulse ≤ 6)
    && decide (8 ≤ c.averages ∧ c.averages ≤ 16) && decide (140000 ≤ c.groupIndex ∧ c.groupIndex ≤ 160000)
    && decide (c.endIndex ≤ c.points) && decide (c.dark ≤ 4095)

/-- A slot as the store takes it at power-on: VALID with a complete header, otherwise EMPTY (R144). -/
def powerOnSlot (slot : Fin 64) (x : Option Capture) : Option Capture :=
  x.bind (fun c => if completeFor slot c then some c else none)

/-! ### Buffers and the queue's room (R145, R146) -/

/-- The four staging buffers by number. -/
def bufferNumbers : List (Fin 4) := [0, 1, 2, 3]

/-- A free staging buffer, the lowest-numbered one (R145; log entry 12: which one is not visible). -/
def Store.freeBuffer (st : Store) : Option (Fin 4) :=
  bufferNumbers.find? (fun i => decide (st.buffers.at i = .free))

/-- The reserved staging buffer (R145). -/
def Store.reservedBuffer (st : Store) : Option (Fin 4) :=
  bufferNumbers.find? (fun i => decide (st.buffers.at i = .reserved))

/-- The number of free staging buffers (R153). -/
def Store.freeCount (st : Store) : Nat :=
  (bufferNumbers.filter (fun i => decide (st.buffers.at i = .free))).length

/-- The occupancy: the entries plus one while a buffer is reserved (R146). -/
def Store.occupancy (st : Store) : Nat := st.commits.length + (if st.reservedBuffer.isSome then 1 else 0)

/-- The queue is full when its occupancy is 4 (R146). -/
def Store.isFull (st : Store) : Bool := decide (Config.commitCapacity ≤ st.occupancy)

/-- A free buffer reserved for a BASELINE test (R33, R145). -/
def Store.reserve (st : Store) : Store :=
  match st.freeBuffer with
  | some i => { st with buffers := st.buffers.put i .reserved }
  | none => st

/-- Every reserved buffer free again (R88, R145). -/
def Store.freeReserved (st : Store) : Store :=
  { st with buffers := Tab.of (fun i => if st.buffers.at i = .reserved then .free else st.buffers.at i) }

/-- The buffer a commit operation held is free again (R148, R151). -/
def Store.freeBufferOf (st : Store) (op : CommitOp) : Store :=
  match op with
  | .write i => { st with buffers := st.buffers.put i .free }
  | .erase => st

/-! ### Reading through the queue (R152) -/

/-- The content a commit entry stands for: its buffer's capture for a WRITE, EMPTY for an ERASE (R152). -/
def Store.contentOf (st : Store) (op : CommitOp) : Option Capture :=
  match op with
  | .write i => match st.buffers.at i with
    | .held c => some c
    | .reserved => none
    | .free => none
  | .erase => none

/-- The commit entry a read of the slot is served from: the QUEUED one before the WRITING one (R152). -/
def Store.servingEntry (st : Store) (slot : Fin 64) : Option Commit :=
  match st.commits.find? (fun e => decide (e.slot = slot) && !e.writing) with
  | some e => some e
  | none => st.commits.find? (fun e => decide (e.slot = slot))

/-- What a read of the slot returns: a capture, or none for EMPTY (R152). -/
def Store.read (st : Store) (slot : Fin 64) : Option Capture :=
  match st.servingEntry slot with
  | some e => st.contentOf e.op
  | none => st.slots.at slot

/-- The read as a baseline view (R108). -/
def Store.view (st : Store) (slot : Fin 64) : View :=
  match st.read slot with
  | some c => .valid c
  | none => .empty

/-! ### Committing (R148 to R151) -/

/-- Programming of a QUEUED head begins: it becomes WRITING, its slot's header is invalidated, and the programming
time starts (R149, R150). -/
def Store.beginHead (st : Store) : Store :=
  match st.commits with
  | [] => st
  | e :: rest =>
    if e.writing then st
    else
      { st with
        commits := { e with writing := true } :: rest
        slots := st.slots.put e.slot none
        programming := some (match e.op with | .write _ => Config.writeTime | .erase => Config.eraseTime) }

/-- The entry is QUEUED for the slot. -/
def Commit.waitsFor (e : Commit) (slot : Fin 64) : Bool := decide (e.slot = slot) && !e.writing

/-- A WRITE or ERASE placed in the commit queue: in place of a QUEUED entry for the slot, whose buffer becomes
free, or as the newest; an entry appended to an empty queue begins at once (R148). -/
def Store.place (st : Store) (slot : Fin 64) (op : CommitOp) : Store :=
  match st.commits.find? (fun e => e.waitsFor slot) with
  | some old =>
    let freed := st.freeBufferOf old.op
    { freed with commits := st.commits.map (fun e => if e.waitsFor slot then { e with op := op } else e) }
  | none =>
    ({ st with commits := st.commits ++ [{ slot := slot, op := op, writing := false }] } : Store).beginHead

/-- A finished BASELINE test's capture: the reserved buffer holds it and its WRITE is placed (R147). -/
def Store.commitCapture (st : Store) (slot : Fin 64) (c : Capture) : Store :=
  match st.reservedBuffer with
  | some i => ({ st with buffers := st.buffers.put i (.held c) } : Store).place slot (.write i)
  | none => st

/-- The store's comparison at the end of programming (R151): for a WRITE, the header and every level record read back
against the held buffer; for an ERASE, a header reading EMPTY. -/
def Store.verifies (st : Store) (op : CommitOp) (r : ReadBack) : Bool :=
  match op with
  | .write i => match st.buffers.at i with
    | .held c => decide (r = .valid c)
    | .reserved => false
    | .free => false
  | .erase => decide (r = .empty)

/-- The end of programming of a WRITING head (R151): the slot holds the new contents, or is EMPTY when the verify
failed; the entry leaves, its buffer is free, and the next entry begins. -/
def Store.endProgramming (st : Store) (verified : Bool) : Store :=
  match st.commits with
  | [] => st
  | e :: rest =>
    if e.writing then
      (({ st with
          slots := st.slots.put e.slot (if verified then st.contentOf e.op else none)
          commits := rest
          programming := none } : Store).freeBufferOf e.op).beginHead
    else st

/-- The entry whose programming is in progress: a WRITING head (R146). -/
def Store.writingHead (st : Store) : Option Commit :=
  match st.commits with
  | [] => none
  | e :: _ => if e.writing then some e else none

end Sys2Proof.Machine
end

