-- ==== Sys2Proof/Machine/TestQueue.lean ====
section
/-! DEFINITION. The test queue on its own state (chapter 2): tickets, duplicates, admission, upgrading, latches,
departures, and the windows the resolver reads (chapter 3). -/

namespace Sys2Proof.Machine

/-- The queue is full (R19). -/
def TestQueue.isFull (q : TestQueue) : Bool := decide (Config.queueCapacity ≤ q.entries.length)

/-- The RUNNING entry (R19). -/
def TestQueue.running (q : TestQueue) : Option Entry := q.entries.find? (fun e => e.run.isSome)

/-- The entry is QUEUED, of this port and kind (R23). -/
def Entry.waitsAs (e : Entry) (p : PortNo) (k : Kind) : Bool :=
  decide (e.run = none) && decide (e.port = p) && decide (e.kind = k)

/-- The QUEUED entry of a port and kind; there is at most one (R23). -/
def TestQueue.findQueued (q : TestQueue) (p : PortNo) (k : Kind) : Option Entry :=
  q.entries.find? (fun e => e.waitsAs p k)

/-- A URGENT entry of the port is RUNNING (R37, R40). -/
def TestQueue.urgentRunning (q : TestQueue) (p : PortNo) : Bool :=
  q.entries.any (fun e => e.run.isSome && decide (e.port = p) && decide (e.kind = .urgent))

/-- The client's share count: its QUEUED entries of origin REQUEST (R24, R28). -/
def TestQueue.shareCount (q : TestQueue) (c : Client) : Nat :=
  (q.entries.filter (fun e => decide (e.run = none) && decide (e.client = c) && decide (e.origin = .request))).length

/-! ### Tickets (R21) -/

/-- The ticket value after another: 1 follows 65535 (R21). -/
def succTicket (t : Nat) : Nat := if Config.lastTicketValue ≤ t then 1 else t + 1

/-- The first value from `t` on that is not held, looking past at most `n` held ones (R21). -/
def nextFreeTicket (held : List Nat) : Nat → Nat → Nat
  | 0, t => t
  | n + 1, t => if held.contains t then nextFreeTicket held n (succTicket t) else t

/-- The ticket the next admission issues (R21). -/
def TestQueue.nextTicket (q : TestQueue) : Nat :=
  nextFreeTicket (q.entries.map (fun e => e.ticket)) q.entries.length (succTicket (q.lastTicket.getD 0))

/-! ### Changes -/

/-- A new QUEUED entry appended as the newest, with a new ticket (R21, R24). -/
def TestQueue.addEntry (q : TestQueue) (c : Client) (p : PortNo) (k : Kind) (o : Origin) : TestQueue :=
  { q with
    entries := q.entries ++ [{ ticket := q.nextTicket, client := c, port := p, kind := k, origin := o, run := none }]
    lastTicket := some q.nextTicket }

/-- The port's QUEUED ROUTINE becomes URGENT in place (R23, R37, R40). -/
def TestQueue.upgrade (q : TestQueue) (p : PortNo) : TestQueue :=
  { q with entries := q.entries.map (fun e => if e.waitsAs p .routine then { e with kind := .urgent } else e) }

/-- The LOS latch of a port set or cleared (R20). -/
def TestQueue.setLatch (q : TestQueue) (p : PortNo) (v : Bool) : TestQueue := { q with latches := q.latches.put p v }

/-- The entries for which `leaves` holds leave; the ones behind close up (R19). -/
def TestQueue.drop (q : TestQueue) (leaves : Entry → Bool) : TestQueue :=
  { q with entries := q.entries.filter (fun e => !(leaves e)) }

/-- The RUNNING entry's fields changed (R33). -/
def TestQueue.setRun (q : TestQueue) (f : RunInfo → RunInfo) : TestQueue :=
  { q with entries := q.entries.map (fun e => { e with run := e.run.map f }) }

/-- The entry with this ticket becomes RUNNING with a band plan (R33). -/
def TestQueue.start (q : TestQueue) (ticket : Nat) (plan : BandSet) : TestQueue :=
  { q with
    entries := q.entries.map (fun e =>
      if e.ticket = ticket then
        { e with run := some { plan := plan, done := ⟨false, false⟩, suspended := false, cancelPending := false } }
      else e) }

/-! ### Band sets -/

/-- The set holds a band. -/
def BandSet.has (x : BandSet) : Band → Bool
  | .A => x.a
  | .B => x.b

/-- The set with a band added. -/
def BandSet.insert (x : BandSet) : Band → BandSet
  | .A => { x with a := true }
  | .B => { x with b := true }

/-- The number of bands in the set. -/
def BandSet.size (x : BandSet) : Nat := x.a.toNat + x.b.toNat

/-- The set is not empty. -/
def BandSet.nonempty (x : BandSet) : Bool := x.a || x.b

/-! ### Windows (R45, R48) -/

/-- The minute of day of a clock value (R45). -/
def minuteOf (clock : Nat) : Nat := clock / 60

/-- The window is open at a clock value; never while the clock is UNSET (R48). -/
def Window.isOpen (w : Window) (clock : Option Nat) : Bool :=
  match clock with
  | none => false
  | some v =>
    if w.start < w.stop then decide (w.start ≤ minuteOf v ∧ minuteOf v < w.stop)
    else if w.stop < w.start then decide (w.start ≤ minuteOf v ∨ minuteOf v < w.stop)
    else true

/-- The client's window is open now (R48). -/
def Office.isOpen (o : Office) (c : Client) : Bool := (o.windows.at c).isOpen o.clock

/-- The band plan of a kind, by the owner's window and the band A enable (R50). -/
def planOf (kind : Kind) (isOpen bandA : Bool) : BandSet :=
  match kind with
  | .urgent => { a := isOpen && bandA, b := true }
  | .routine => { a := isOpen && bandA, b := isOpen }
  | .baseline .A => { a := isOpen, b := false }
  | .baseline .B => { a := false, b := isOpen }
  | .confirm => { a := isOpen, b := false }

end Sys2Proof.Machine
end

