-- ==== Sys2Proof/Machine/Ops.lean ====
section
/-! DEFINITION. The shared operations over the whole state: results, the latch drain, the resolver, the end of a
test, the engine's bands and blocks, the selector's reports, the arbiter's choice, and the hold. -/

namespace Sys2Proof.Machine

/-! ### Parts of the state -/

/-- A client's link. -/
def State.link (s : State) (c : Client) : Link := s.hw.links.at c

/-- The state with one client's link replaced. -/
def State.setLink (s : State) (c : Client) (l : Link) : State :=
  s.setHw { s.hw with links := s.hw.links.put c l }

/-- A port's record. -/
def State.port (s : State) (p : PortNo) : PortRecord := s.ports.at p

/-- The state with one port's record replaced. -/
def State.setPort (s : State) (p : PortNo) (r : PortRecord) : State := s.setPorts (s.ports.put p r)

/-- The four clients. -/
def clients : List Client := [0, 1, 2, 3]

/-- The clients in the hold set (R156). -/
def HoldUnit.list (h : HoldUnit) : List Client := clients.filter (fun c => h.members.at c)

/-- The hold set is empty (R156). -/
def HoldUnit.isEmpty (h : HoldUnit) : Bool := h.list.isEmpty

/-! ### Results (R14, R15) -/

/-- A result written to a port: the whole record replaced and the unread-result flag set (R15). -/
def State.writeResult (s : State) (p : PortNo) (r : ResultRecord) : State :=
  s.setPort p { s.port p with result := some r, unread := true }

/-- The per-band fields of a test that never ran the band. -/
def BandResult.notRun : BandResult := { run := false, baseline := none, endIndex := none, dark := none }

/-- The result of a QUEUED entry that is cancelled or evicted (R14, R15). -/
def queuedResult (e : Entry) (status : Status) (clock : Option Nat) : ResultRecord where
  ticket := e.ticket
  kind := e.kind
  status := status
  cause := none
  bands := ⟨BandResult.notRun, BandResult.notRun⟩
  findings := 0
  more := false
  tableFull := false
  time := clock

/-- The kind is BASELINE. -/
def Kind.isBaseline : Kind → Bool
  | .baseline _ => true
  | _ => false

/-- The per-band fields of a RUNNING test's result (R14, R26, R88). A test that ends while it re-positions after a hold
shows the bands it has run and the dark values it holds, though it ends in POSITION (R161; DESIGN CHOICE, log entry 38:
R78 has a test that ends in POSITION show neither). -/
def bandResult (eng : Engine) (e : Entry) (ri : RunInfo) (status : Status) (r : Report) (b : Band) : BandResult where
  run := ri.done.has b
  baseline := if status = .done ∧ ri.done.has b = true ∧ e.kind.isBaseline = false then r.baselines.at b else none
  endIndex := if status = .done ∧ ri.done.has b = true then (eng.traces.at b).map (fun t => t.endIndex) else none
  dark := eng.darks.at b

/-- The result of a RUNNING test (R14). -/
def runningResult (eng : Engine) (e : Entry) (ri : RunInfo) (status : Status) (cause : Option Cause) (r : Report)
    (tableFull : Bool) (clock : Option Nat) : ResultRecord where
  ticket := e.ticket
  kind := e.kind
  status := status
  cause := cause
  bands := ⟨bandResult eng e ri status r .A, bandResult eng e ri status r .B⟩
  findings := r.findings.length
  more := r.more
  tableFull := tableFull
  time := clock

/-! ### The latch drain (R40) -/

/-- The drain's work on one port with a set latch, while the queue has room (R40). -/
def State.drainPort (s : State) (p : PortNo) : State :=
  if s.queue.latches.at p = false ∨ s.queue.isFull = true ∨ s.queue.urgentRunning p = true then s
  else if (s.queue.findQueued p .urgent).isSome then s.setQueue (s.queue.setLatch p false)
  else if (s.queue.findQueued p .routine).isSome then s.setQueue ((s.queue.upgrade p).setLatch p false)
  else
    match (s.port p).claimant with
    | some c => s.setQueue ((s.queue.addEntry c p .urgent .los).setLatch p false)
    | none => s

/-- The 32 ports in increasing order. -/
def portList : List PortNo := List.finRange 32

/-- The latch drain: the set latches in increasing port number (R40). -/
def State.drain (s : State) : State := portList.foldl State.drainPort s

/-- Entries leave the queue; the drain runs once if any did (R40). -/
def State.depart (s : State) (leaves : Entry → Bool) : State :=
  if s.queue.entries.any leaves then (s.setQueue (s.queue.drop leaves)).drain else s

/-! ### The resolver and eligibility (R29, R49, R50) -/

/-- The owner's window of a port is open; never for an unclaimed port (R49). -/
def State.ownerWindowOpen (s : State) (p : PortNo) : Bool :=
  match (s.port p).claimant with
  | some c => s.office.isOpen c
  | none => false

/-- The permission resolver (R49, R50). -/
def State.resolve (s : State) (p : PortNo) (kind : Kind) : BandSet :=
  if (s.port p).claimant = none ∨ s.sel.state = .fault ∨ s.hold.isEmpty = false then ⟨false, false⟩
  else planOf kind (s.ownerWindowOpen p) (s.port p).profile.bandAEnable

/-- A QUEUED entry is eligible (R29). -/
def State.eligible (s : State) (e : Entry) : Bool :=
  decide (e.run = none) && (s.resolve e.port e.kind).nonempty
    && (!(e.kind.isBaseline) || (s.store.freeBuffer.isSome && !(s.store.isFull)))

/-! ### Ending a test (R35, R88) -/

/-- The engine with its working data discarded and no test in hand (R88, R90 step 4). -/
def Engine.discard (eng : Engine) : Engine :=
  { eng with
    hand := .none
    snap := none
    band := none
    counter := 0
    blocksDone := 0
    sums := []
    accs := []
    clips := []
    darkTotal := 0
    darks := ⟨none, none⟩
    traces := ⟨none, none⟩
    views := ⟨none, none⟩
    analysisTimer := none
    resume := none
    trigger := none
    sampling := false }

/-- The working data are discarded and a reserved staging buffer is free again (R88). -/
def State.discardWork (s : State) : State :=
  (s.setEng s.eng.discard).setStore s.store.freeReserved

/-- The engine enters HELD: both triggers off and the hold timer started (R159). -/
def State.enterHeld (s : State) : State :=
  (s.setEng { s.eng with state := .held, trigger := none }).setHold { s.hold with timer := some Config.holdTime }

/-- The engine after a test: IDLE, or HELD while the hold set is not empty; an engine already HELD stays so
(R35 step 5, R88). -/
def State.leaveTest (s : State) : State :=
  if s.hold.isEmpty then s.setEng { s.eng with state := .idle }
  else if s.eng.state = .held then s
  else s.enterHeld

/-- The CONFIRM of R41, if the port is claimed and none is QUEUED. -/
def State.admitConfirm (s : State) (p : PortNo) : State :=
  match (s.port p).claimant with
  | none => s
  | some c =>
    if (s.queue.findQueued p .confirm).isSome then s else s.setQueue (s.queue.addEntry c p .confirm .analysis)

/-- The end of the test in hand (R35): result, departure, CONFIRM, latch drain, and the engine. A detached test
has no entry and takes the last step alone. -/
def State.endTest (s : State) (status : Status) (cause : Option Cause) (r : Report) (tableFull : Bool) : State :=
  match s.queue.running with
  | none => s.discardWork.leaveTest
  | some e =>
    match e.run with
    | none => s.discardWork.leaveTest
    | some ri =>
      let written := s.writeResult e.port (runningResult s.eng e ri status cause r tableFull s.office.clock)
      let left := written.setQueue (written.queue.drop (fun x => x.run.isSome))
      let confirmed := if status = .done ∧ r.asksConfirm = true then left.admitConfirm e.port else left
      (confirmed.drain).discardWork.leaveTest

/-- A test ends other than DONE: CANCELLED with cancel pending, otherwise FAILED with the cause; a detached test
ends with no result (R27, R65, R86). -/
def State.abort (s : State) (cause : Cause) : State :=
  match s.queue.running with
  | some { run := some ri, .. } =>
    if ri.cancelPending then s.endTest .cancelled none Report.none false
    else s.endTest .failed (some cause) Report.none false
  | _ => s.endTest .failed (some cause) Report.none false

/-- A test ends CANCELLED, or with no result if it is detached (R26, R27). -/
def State.cancelTest (s : State) : State := s.endTest .cancelled none Report.none false

/-- The restart mark cleared (R161, R162). -/
def State.clearMark (s : State) : State := s.setHold { s.hold with mark := false }

/-! ### Shots, blocks and bands (R79 to R85) -/

/-- The shot that starts now: its trigger is decided, and whether its samples are added (R79, R84, R85). -/
def Engine.startShot (eng : Engine) (permit : Bool) : Engine :=
  { eng with
    trigger := if eng.state = .acquire ∧ eng.kind = .laser ∧ permit = true then eng.band else none
    sampling := decide (¬ (eng.state = .draining ∧ eng.kind = .laser)) }

/-- The first shot of a block starts, with the block counter loaded (R80). -/
def Engine.startBlock (eng : Engine) (permit : Bool) : Engine :=
  ({ eng with counter := Config.shotsPerBlock } : Engine).startShot permit

/-- A band begins with its dark block (R80). -/
def Engine.beginBand (eng : Engine) (b : Band) (permit : Bool) : Engine :=
  ({ eng with
     state := .dark
     band := some b
     kind := .dark
     blocksDone := 0
     sums := []
     accs := []
     clips := []
     darkTotal := 0
     darks := eng.darks.put b none } : Engine).startBlock permit

/-- A laser block starts (R81, R82, R161). -/
def Engine.beginLaserBlock (eng : Engine) (permit : Bool) : Engine :=
  ({ eng with state := .acquire, kind := .laser, sums := [] } : Engine).startBlock permit

/-- A band begins on the whole state. -/
def State.beginBand (s : State) (b : Band) : State := s.setEng (s.eng.beginBand b s.sel.permit)

/-- A laser block starts on the whole state. -/
def State.beginLaserBlock (s : State) : State := s.setEng (s.eng.beginLaserBlock s.sel.permit)

/-- The first planned band: B if the plan holds it, otherwise A (R78). -/
def BandSet.first (x : BandSet) : Band := if x.b then .B else .A

/-- The test in hand is parked: its resume point, or before its first band, its suspended flag, and HELD (R158,
R159). -/
def State.park (s : State) (point : ResumePoint) : State :=
  ((s.setEng { s.eng with resume := some point }).setQueue
    (s.queue.setRun (fun ri => { ri with suspended := true }))).enterHeld

/-- The test goes on at arrival from its resume point (R78, R161). -/
def State.goOn (s : State) (ri : RunInfo) : State :=
  let t := ((s.setQueue (s.queue.setRun (fun x => { x with suspended := false }))).setEng
    { s.eng with resume := none }).clearMark
  match s.eng.resume, s.eng.band with
  | some .firstLaser, some b => if s.hold.mark then t.beginBand b else t.beginLaserBlock
  | some .nextLaser, some b => if s.hold.mark then t.beginBand b else t.beginLaserBlock
  | _, _ => t.beginBand ri.plan.first

/-- Arrival in POSITION (R78, R158, R161). -/
def State.arrive (s : State) : State :=
  match s.queue.running with
  | some { run := some ri, .. } =>
    if ri.cancelPending then s.clearMark.cancelTest
    else if s.hold.isEmpty then s.goOn ri
    else s.park (s.eng.resume.getD .beforeBand)
  | _ => s.clearMark.cancelTest

/-- Positioning failure in POSITION (R65, R78, R161). -/
def State.positionFailed (s : State) : State := s.clearMark.abort .selector

/-- The engine is shooting a block: DARK, ACQUIRE or DRAINING. -/
def EngState.shooting : EngState → Bool
  | .dark => true
  | .acquire => true
  | .draining => true
  | _ => false

/-- A parked acquisition whose resume point lies after the start of its current band's dark block (R162). -/
def Engine.parkedInBand (eng : Engine) : Bool :=
  decide (eng.state = .held)
    && (decide (eng.resume = some .firstLaser) || decide (eng.resume = some .nextLaser))

/-- The restart mark set for such an acquisition (R162). -/
def State.markRestart (s : State) : State :=
  if s.eng.parkedInBand then s.setHold { s.hold with mark := true } else s

/-- What the engine and the hold unit make of a report of the selector (R57, R65, R70, R71, R78). -/
def State.heed (s : State) : SelReport → State
  | .quiet => s
  | .arrival => if s.eng.state = .position then s.arrive else s
  | .failure => if s.eng.state = .position then s.positionFailed else s
  | .disturbed => if s.eng.state.shooting then s.abort .disturbed else s
  | .rotation => s.markRestart
  | .lostSettled => if s.eng.state.shooting then s.abort .selector else s.markRestart

/-- The selector replaced and its report heeded. -/
def State.selEvent (s : State) (x : Selector × SelReport) : State := (s.setSel x.1).heed x.2

/-- The engine is HELD, as the selector sees it (R60, R71). -/
def State.isHeld (s : State) : Bool := decide (s.eng.state = .held)

/-- The position request of the test in hand (R59). -/
def State.requestPosition (s : State) (p : PortNo) : State := s.selEvent (s.sel.request p)

/-! ### The arbiter (R30 to R33) -/

/-- The clients in turn from the round-robin pointer, wrapping from 3 to 0 (R32). -/
def turnOrder (pointer : Client) : List Client := [pointer, pointer + 1, pointer + 2, pointer + 3]

/-- The oldest eligible URGENT entry (R31). -/
def State.eligibleUrgent (s : State) : Option Entry :=
  s.queue.entries.find? (fun e => decide (e.kind = .urgent) && s.eligible e)

/-- The client's entry in its turn: its oldest eligible CONFIRM, otherwise its oldest eligible BASELINE or ROUTINE
(R32). -/
def State.turnEntry (s : State) (c : Client) : Option Entry :=
  match s.queue.entries.find? (fun e => decide (e.client = c) && decide (e.kind = .confirm) && s.eligible e) with
  | some e => some e
  | none =>
    s.queue.entries.find? (fun e =>
      decide (e.client = c) && (decide (e.kind = .routine) || e.kind.isBaseline) && s.eligible e)

/-- The choice: an entry, and the pointer after it (R31, R32). -/
def State.choose (s : State) : Option (Entry × Client) :=
  match s.eligibleUrgent with
  | some e => some (e, s.queue.pointer)
  | none => (turnOrder s.queue.pointer).findSome? (fun c => (s.turnEntry c).map (fun e => (e, c + 1)))

/-- The chosen test starts: the entry RUNNING with its plan, the engine in POSITION with the snapshot, a buffer
reserved for a BASELINE, and the position request (R33, R76, R77). -/
def State.startTest (s : State) (e : Entry) (pointer : Client) : State :=
  let q := { s.queue.start e.ticket (s.resolve e.port e.kind) with pointer := pointer }
  let eng := { s.eng.discard with
    state := .position, hand := .entry e.ticket, snap := some (s.port e.port).profile.snapshot }
  let store := if e.kind.isBaseline then s.store.reserve else s.store
  (((s.setQueue q).setEng eng).setStore store).requestPosition e.port

/-- The conditions under which the arbiter takes a choice, but for an eligible entry (R30). -/
def State.mayChoose (s : State) : Bool :=
  decide (s.eng.state = .idle) && s.hold.isEmpty && decide (s.sel.state ≠ .fault)

/-- The arbiter's choice, taken when its conditions hold together (R30). -/
def State.arbitrate (s : State) : State :=
  if s.mayChoose then
    match s.choose with
    | some (e, pointer) => s.startTest e pointer
    | none => s
  else s

/-! ### The hold (R157 to R161) -/

/-- A client joins the hold set; the first one brings the engine toward HELD; a member changes nothing (R157,
R158). -/
def State.joinHold (s : State) (c : Client) : State :=
  if s.hold.members.at c then s
  else
    let t := s.setHold { s.hold with members := s.hold.members.put c true }
    if s.hold.isEmpty then
      match s.eng.state with
      | .idle => t.enterHeld
      | .dark => t.setEng { t.eng with state := .draining, trigger := none }
      | .acquire => t.setEng { t.eng with state := .draining, trigger := none }
      | _ => t
    else t

/-- The selector's deferred re-drive begins (R71). -/
def State.redrive (s : State) : State := s.setSel s.sel.deferredMove

/-- The hold set has become empty: a draining engine returns to its block, a HELD one goes to IDLE or re-positions
its parked test (R160, R161). -/
def State.releaseHold (s : State) : State :=
  match s.eng.state with
  | .draining =>
    match s.eng.kind with
    | .dark => s.setEng { s.eng with state := .dark }
    | .laser =>
      s.setEng (({ s.eng with state := .acquire, sums := [] } : Engine).startBlock s.sel.permit)
  | .held =>
    let t := s.setHold { s.hold with timer := none }
    match s.queue.running with
    | none => ((t.setEng { t.eng with state := .idle }).clearMark).redrive
    | some e => ((t.setEng { t.eng with state := .position }).redrive).requestPosition e.port
  | _ => s

/-- A client leaves the hold set; the last one ends the hold; a client not in the set changes nothing (R160,
R164). -/
def State.leaveHold (s : State) (c : Client) : State :=
  if s.hold.members.at c then
    let t := s.setHold { s.hold with members := s.hold.members.put c false }
    if t.hold.isEmpty then t.releaseHold else t
  else s

end Sys2Proof.Machine
end

