-- ==== Sys2Proof/Machine/EngineEvents.lean ====
section
/-! DEFINITION. The acquisition engine's events (chapter 5): shots, block boundaries, the completion of a band, and
the end of the analysis. -/

namespace Sys2Proof.Machine

/-! ### Shots (R79, R80) -/

/-- The sample of a shot at point i. -/
def sampleAt (x : Samples) (i : Nat) : Nat := ((x.listed.lookup i).getD x.base).toNat

/-- The P samples of a shot, point by point (R79). -/
def shotSamples (x : Samples) (points : Nat) : List Nat := (List.range points).map (sampleAt x)

/-- Two lists of sums added point by point; a point past the end of one holds 0 there. -/
def addSums : List Nat → List Nat → List Nat
  | [], ys => ys
  | x :: xs, [] => x :: xs
  | x :: xs, y :: ys => (x + y) :: addSums xs ys

/-- Two lists of flags joined point by point; a point past the end of one is clear there. -/
def orFlags : List Bool → List Bool → List Bool
  | [], ys => ys
  | x :: xs, [] => x :: xs
  | x :: xs, y :: ys => (x || y) :: orFlags xs ys

/-- The samples of the shot that ends are added: to the dark total in a dark block, to the block sums and clip flags
in a laser block, and nowhere for a shot started while DRAINING from a laser block (R79, R84). -/
def Engine.addShot (eng : Engine) (xs : List Nat) : Engine :=
  match eng.kind with
  | .dark => { eng with darkTotal := eng.darkTotal + xs.sum }
  | .laser =>
    if eng.sampling then
      { eng with
        sums := addSums eng.sums xs
        clips := orFlags eng.clips (xs.map (fun v => decide (v = 4095))) }
    else eng

/-! ### The completion of a band and the entry into ANALYSE (R83, R89, R108) -/

/-- The baseline view of one band: read for a band in bands done, none otherwise (R108). -/
def State.viewOf (s : State) (p : PortNo) (done : BandSet) (b : Band) : Option View :=
  if done.has b then some (s.store.view (slotOf p b)) else none

/-- The engine enters ANALYSE: the analysis timer starts, and for a test that is compared the baseline views are
read (R89, R108). -/
def State.enterAnalyse (s : State) (sn : Snapshot) (e : Entry) (done : BandSet) : State :=
  let views : PerBand (Option View) :=
    if e.kind.isBaseline then ⟨none, none⟩ else ⟨s.viewOf e.port done .A, s.viewOf e.port done .B⟩
  s.setEng { s.eng with
    state := .analyse
    trigger := none
    analysisTimer := some (Config.analysisTimePerPoint * sn.points * done.size)
    views := views }

/-- A band is complete: it joins bands done and is converted, and band A or ANALYSE follows; before band A the
owner's window is read once (R52, R83). -/
def State.completeBand (s : State) (sn : Snapshot) (b : Band) (e : Entry) (ri : RunInfo) : State :=
  let done := ri.done.insert b
  let dark := (s.eng.darks.at b).getD 0
  let t := (s.setQueue (s.queue.setRun (fun x => { x with done := x.done.insert b }))).setEng
    { s.eng with traces := s.eng.traces.put b (some (convertBand sn dark s.eng.accs s.eng.clips)) }
  match b with
  | .A => t.enterAnalyse sn e done
  | .B =>
    if ri.plan.a then
      if s.ownerWindowOpen e.port then t.beginBand .A
      else
        (t.setQueue (t.queue.setRun (fun x => { x with plan := { x.plan with a := false } }))).enterAnalyse sn e done
    else t.enterAnalyse sn e done

/-! ### Block boundaries (R81, R82, R84) -/

/-- The boundary of a dark block (R81). -/
def State.darkBoundary (s : State) (sn : Snapshot) (b : Band) : State :=
  let t := s.setEng { s.eng with
    darks := s.eng.darks.put b (some (s.eng.darkTotal / (Config.shotsPerBlock * sn.points)))
    darkTotal := 0 }
  match s.queue.running with
  | some { run := some ri, .. } =>
    if ri.cancelPending then t.cancelTest
    else if s.eng.state = .draining then t.park .firstLaser
    else t.beginLaserBlock
  | _ => t.cancelTest

/-- The boundary of a laser block in ACQUIRE (R82). -/
def State.laserBoundary (s : State) (sn : Snapshot) (b : Band) : State :=
  let n := s.eng.blocksDone + 1
  let t := s.setEng { s.eng with accs := addSums s.eng.accs s.eng.sums, sums := [], blocksDone := n }
  match s.queue.running with
  | some e =>
    match e.run with
    | some ri =>
      if ri.cancelPending then
        (if sn.blocks ≤ n then
          (t.setQueue (t.queue.setRun (fun x => { x with done := x.done.insert b }))).cancelTest
        else t.cancelTest)
      else if sn.blocks ≤ n then t.completeBand sn b e ri
      else t.beginLaserBlock
    | none => t.cancelTest
  | none => t.cancelTest

/-- The boundary of a drained laser block: its sums are discarded (R84). -/
def State.drainedBoundary (s : State) : State :=
  let t := s.setEng { s.eng with sums := [] }
  match s.queue.running with
  | some { run := some ri, .. } => if ri.cancelPending then t.cancelTest else t.park .nextLaser
  | _ => t.cancelTest

/-- The boundary of the block that has just ended, by its kind and the engine's state (R81, R82, R84). -/
def State.boundary (s : State) (sn : Snapshot) (b : Band) : State :=
  match s.eng.kind with
  | .dark => s.darkBoundary sn b
  | .laser => if s.eng.state = .draining then s.drainedBoundary else s.laserBoundary sn b

/-- The end of one shot: its samples are added and the block counter falls; at 0 the block boundary follows,
otherwise the next shot starts (R79, R80). No shot is in progress outside DARK, ACQUIRE and DRAINING, and its end
then changes nothing; so the samples of a shot in progress when a disturbance or an encoder error ends the test are
dropped (DESIGN CHOICE, log entry 35: R85 lets the shot end, R86 and R88 discard the sums). -/
def State.endShot (s : State) (x : Samples) : State :=
  match s.eng.snap, s.eng.band with
  | some sn, some b =>
    if s.eng.state.shooting = true ∧ 1 ≤ s.eng.counter then
      let added := s.eng.addShot (shotSamples x sn.points)
      if s.eng.counter = 1 then ((s.setEng { added with counter := 0 }).boundary sn b).arbitrate
      else s.setEng (({ added with counter := s.eng.counter - 1 } : Engine).startShot s.sel.permit)
    else s
  | _, _ => s

/-- The shot in progress is the last of its block. -/
def State.lastShot (s : State) : Bool := s.eng.state.shooting && decide (s.eng.counter = 1)

/-- SHOT: the end of one shot period (R79, R80). -/
def execShot (x : Samples) (s : State) : Host.Outcome State Fault Refusal := .next (s.endShot x)

/-- DARK_BLOCK_BOUNDARY: the last shot of a dark block ends (R81). -/
def execDarkBlockBoundary (x : Samples) (s : State) : Host.Outcome State Fault Refusal :=
  .next (if s.lastShot = true ∧ s.eng.kind = .dark then s.endShot x else s)

/-- LASER_BLOCK_BOUNDARY: the last shot of a laser block in ACQUIRE ends (R82). -/
def execLaserBlockBoundary (x : Samples) (s : State) : Host.Outcome State Fault Refusal :=
  .next (if s.lastShot = true ∧ s.eng.kind = .laser ∧ s.eng.state ≠ .draining then s.endShot x else s)

/-- DRAINED_BLOCK_BOUNDARY: the last shot of a drained laser block ends (R84). -/
def execDrainedBlockBoundary (x : Samples) (s : State) : Host.Outcome State Fault Refusal :=
  .next (if s.lastShot = true ∧ s.eng.kind = .laser ∧ s.eng.state = .draining then s.endShot x else s)

/-! ### The end of the analysis (R90) -/

/-- The capture a BASELINE test commits (R147). -/
def State.captureOf (s : State) (sn : Snapshot) (e : Entry) (b : Band) (t : Trace) : Capture where
  port := e.port
  band := b
  points := sn.points
  period := sn.period
  pulse := sn.pulse
  averages := sn.averages
  groupIndex := sn.groupIndex
  endIndex := t.endIndex
  dark := t.dark
  ticket := e.ticket
  time := s.office.clock
  levels := t.points

/-- The last-trace pair after a test (R92). -/
def lastPairOf (sn : Snapshot) (e : Entry) (traces : PerBand (Option Trace)) : LastPair where
  port := e.port
  ticket := e.ticket
  kind := e.kind
  points := sn.points
  period := sn.period
  pulse := sn.pulse
  averages := sn.averages
  groupIndex := sn.groupIndex
  traces := traces

/-- The fold of a test's report on the whole state: the table, and the port's unseen-findings flag when an entry
was announced (R129, R137). -/
def State.foldReport (s : State) (sn : Snapshot) (e : Entry) (r : Report) : State × Bool :=
  let f := foldTest s.faults e.port (s.port e.port).profile.matchDistance sn.spacing e.ticket r
  let t := s.setFaults f.table
  (if f.announced then t.setPort e.port { t.port e.port with unseen := true } else t, f.full)

/-- The test completes: its findings are folded in or its capture is committed, the last-trace pair is replaced, and
it ends DONE (R90). -/
def State.completeTest (s : State) (sn : Snapshot) (e : Entry) : State :=
  let keep := fun (t : State) => t.setEng { t.eng with lastPair := some (lastPairOf sn e s.eng.traces) }
  match e.kind with
  | .baseline b =>
    let t := match s.eng.traces.at b with
      | some tr => s.setStore (s.store.commitCapture (slotOf e.port b) (s.captureOf sn e b tr))
      | none => s
    (keep t).endTest .done none Report.none false
  | kind =>
    let r := analyse sn kind e.port s.eng.traces s.eng.views s.faults
    let t := s.foldReport sn e r
    (keep t.1).endTest .done none r t.2

/-- The analysis timer expires: the test completes; a detached one ends with no result (R90). -/
def State.analysisExpires (s : State) : State :=
  if s.eng.state = .analyse ∧ s.eng.analysisTimer.isSome then
    match s.queue.running, s.eng.snap with
    | some e, some sn => (s.completeTest sn e).arbitrate
    | _, _ => s.cancelTest.arbitrate
  else s

/-- ANALYSIS_END (R90). -/
def execAnalysisEnd (s : State) : Host.Outcome State Fault Refusal := .next s.analysisExpires

/-! ### The hold timer (R162) -/

/-- HOLD_TIMER_EXPIRY: the timer stops, and the restart mark is set for an acquisition parked within its band
(R162). -/
def execHoldTimerExpiry (s : State) : Host.Outcome State Fault Refusal :=
  .next (if s.hold.timer.isSome then (s.setHold { s.hold with timer := none }).markRestart else s)

end Sys2Proof.Machine
end

