-- ==== Sys2Proof/Decode.lean ====
section
/-! DEFINITION. Reading a command from a word (no row of the table has bits), and the highway's own formats:
the fields of a word (R167), the 21 requests with their codes and lengths (11.6), reading a completed message
as a request, and the words a request is sent in. -/

namespace Sys2Proof

/-- The command a word spells by the bits of spec/opcode_table.json: no row of the table gives bits. -/
def decodeTableWord (_nbits _w : Nat) : Option Instr := none

/-! ### The fields of a word -/

/-- The four word types of R167's table; type 11 is taken as IDLE inbound. -/
inductive WordType where
  | idle | header | data
  deriving DecidableEq, Repr

/-- Bits 31–30 of an inbound word (R167). -/
def wordType (w : Word) : WordType :=
  if w.extractLsb' 30 2 = 1#2 then .header
  else if w.extractLsb' 30 2 = 2#2 then .data
  else .idle

/-- Bits 29–0 of a word (R167). -/
def wordPayload (w : Word) : Payload := w.extractLsb' 0 30

/-- The message length a request header gives: bits 29–26 plus one (R167). -/
def headerLength (w : Word) : Nat := (w.extractLsb' 26 4).toNat + 1

/-- The request code of a request header, bits 25–21 (R167). -/
def headerCode (w : Word) : Nat := (w.extractLsb' 21 5).toNat

/-- The tag of a request header, bits 14–0; bits 20–15 are not examined (R167). -/
def headerTag (w : Word) : Tag := w.extractLsb' 0 15

/-- A request header of the given length, code and tag (R167). -/
def requestHeader (length code : Nat) (tag : Tag) : Word :=
  1#2 ++ BitVec.ofNat 4 (length - 1) ++ BitVec.ofNat 5 code ++ 0#6 ++ tag

/-- A DATA word with the given payload (R167). -/
def dataWord (x : Payload) : Word := 2#2 ++ x

/-- A response header of the given length, response code, request code and tag (R167). -/
def responseHeader (length response code : Nat) (tag : Tag) : Word :=
  1#2 ++ BitVec.ofNat 6 (length - 1) ++ BitVec.ofNat 4 response ++ BitVec.ofNat 5 code ++ tag

/-! ### The requests -/

/-- The 21 requests of 11.6 with their parameters in order. -/
inductive Request where
  | claim (port : Payload)
  | release (port : Payload)
  | setProfile (port : Payload) (fields : ProfileWords)
  | getProfile (port : Payload)
  | getResult (port : Payload)
  | schedule (port kind band : Payload)
  | cancel (ticket : Payload)
  | listQueue
  | setWindow (start stop : Payload)
  | setClock (seconds : Payload)
  | home
  | getTrace (source port band first count : Payload)
  | getFindings (port first : Payload)
  | ackFinding (port entry : Payload)
  | deleteFinding (port entry : Payload)
  | baselineInfo (port : Payload)
  | eraseBaseline (port band : Payload)
  | hold
  | resume
  | status
  | linkReset
  deriving DecidableEq, Repr

/-- The request's code and parameters, as 11.6 lists them. -/
def Request.wire : Request → Nat × List Payload
  | .claim port => (1, [port])
  | .release port => (2, [port])
  | .setProfile port f =>
    (3, [port, f.groupIndex, f.period, f.points, f.pulse, f.averages, f.floorMargin, f.stepThreshold,
      f.reflectionThreshold, f.smoothing, f.confirmLength, f.bendMargin, f.matchDistance, f.bandAEnable,
      f.losEnable])
  | .getProfile port => (4, [port])
  | .getResult port => (5, [port])
  | .schedule port kind band => (6, [port, kind, band])
  | .cancel ticket => (7, [ticket])
  | .listQueue => (8, [])
  | .setWindow start stop => (9, [start, stop])
  | .setClock seconds => (10, [seconds])
  | .home => (11, [])
  | .getTrace source port band first count => (12, [source, port, band, first, count])
  | .getFindings port first => (13, [port, first])
  | .ackFinding port entry => (14, [port, entry])
  | .deleteFinding port entry => (15, [port, entry])
  | .baselineInfo port => (16, [port])
  | .eraseBaseline port band => (17, [port, band])
  | .hold => (18, [])
  | .resume => (19, [])
  | .status => (20, [])
  | .linkReset => (21, [])

/-- The request code of 11.6. -/
def Request.code (r : Request) : Nat := r.wire.1

/-- The message length of 11.6, header included. -/
def Request.length (r : Request) : Nat := r.wire.2.length + 1

/-- The words a client sends for a request (R167: each parameter in one DATA word, in order). -/
def Request.words (r : Request) (tag : Tag) : List Word :=
  requestHeader r.length r.code tag :: r.wire.2.map dataWord

/-- A request without parameters. -/
def noParams (r : Request) : List Payload → Option Request
  | [] => some r
  | _ => none

/-- A request of one parameter. -/
def oneParam (f : Payload → Request) : List Payload → Option Request
  | [a] => some (f a)
  | _ => none

/-- A request of two parameters. -/
def twoParams (f : Payload → Payload → Request) : List Payload → Option Request
  | [a, b] => some (f a b)
  | _ => none

/-- A SCHEDULE: port, kind and band. -/
def scheduleParams : List Payload → Option Request
  | [port, kind, band] => some (.schedule port kind band)
  | _ => none

/-- A GET TRACE: source, port, band, first index and point count. -/
def traceParams : List Payload → Option Request
  | [source, port, band, first, count] => some (.getTrace source port band first count)
  | _ => none

/-- A SET PROFILE: the port and the fourteen fields in the order of R9. -/
def profileParams : List Payload → Option Request
  | [port, a, b, c, d, e, f, g, h, i, j, k, l, m, n] =>
    some (.setProfile port ⟨a, b, c, d, e, f, g, h, i, j, k, l, m, n⟩)
  | _ => none

/-- The request that a code and its parameters stand for; none for a code not listed in 11.6 or a number of
parameters that is not the listed one (R171). -/
def requestOf (code : Nat) (ps : List Payload) : Option Request :=
  match code with
  | 1 => oneParam .claim ps
  | 2 => oneParam .release ps
  | 3 => profileParams ps
  | 4 => oneParam .getProfile ps
  | 5 => oneParam .getResult ps
  | 6 => scheduleParams ps
  | 7 => oneParam .cancel ps
  | 8 => noParams .listQueue ps
  | 9 => twoParams .setWindow ps
  | 10 => oneParam .setClock ps
  | 11 => noParams .home ps
  | 12 => traceParams ps
  | 13 => twoParams .getFindings ps
  | 14 => twoParams .ackFinding ps
  | 15 => twoParams .deleteFinding ps
  | 16 => oneParam .baselineInfo ps
  | 17 => twoParams .eraseBaseline ps
  | 18 => noParams .hold ps
  | 19 => noParams .resume ps
  | 20 => noParams .status ps
  | 21 => noParams .linkReset ps
  | _ => none

/-- A completed message read as a request: the code of its header and the payloads of its later words (R167,
R171). None is a message answered MALFORMED. -/
def decodeMessage : List Word → Option Request
  | [] => none
  | h :: rest => requestOf (headerCode h) (rest.map wordPayload)

end Sys2Proof
end

