-- ==== Sys2Proof/Machine/Flags.lean ====
section
/-! DEFINITION. The six attention flags and the idle status word (R173, R174), and the laser triggers as signals. -/

namespace Sys2Proof.Machine

/-- RESULT: a port claimed by the client has its unread-result flag set (R16, R174). -/
def State.resultFlag (s : State) (c : Client) : Bool :=
  portList.any (fun p => decide ((s.port p).claimant = some c) && (s.port p).unread)

/-- FINDINGS: a port claimed by the client has its unseen-findings flag set (R17, R174). -/
def State.findingsFlag (s : State) (c : Client) : Bool :=
  portList.any (fun p => decide ((s.port p).claimant = some c) && (s.port p).unseen)

/-- HELD: the engine is HELD and the client is in the hold set (R159, R174). -/
def State.heldFlag (s : State) (c : Client) : Bool := s.isHeld && s.hold.members.at c

/-- The six flags in the order of R174: RESULT, FINDINGS, HELD, OVERRUN, FRAMING, STORE. -/
def State.attention (s : State) (c : Client) : List Bool :=
  [s.resultFlag c, s.findingsFlag c, s.heldFlag c, (s.link c).overrun, (s.link c).framing, (s.link c).store]

/-- The engine state's place in R75's list (R168). -/
def EngState.code : EngState → Nat
  | .idle => 0
  | .position => 1
  | .dark => 2
  | .acquire => 3
  | .analyse => 4
  | .draining => 5
  | .held => 6

/-- The selector state's place in R55's list (R168). -/
def SelState.code : SelState → Nat
  | .lost => 0
  | .homing => 1
  | .moving => 2
  | .settling => 3
  | .settled => 4
  | .fault => 5

/-- The words received in an assembly buffer, 0 when EMPTY (R173). -/
def Assembly.received : Assembly → Nat
  | .empty => 0
  | .assembling words _ => words.length

/-- The assembly buffer is ASSEMBLING (R173). -/
def Assembly.isAssembling : Assembly → Bool
  | .empty => false
  | .assembling _ _ => true

/-- The idle status word of a client, built from the state as it stands (R173). -/
def State.idleWord (s : State) (c : Client) : Word :=
  let l := s.link c
  0#2 ++ BitVec.ofBool (s.resultFlag c) ++ BitVec.ofBool (s.findingsFlag c) ++ BitVec.ofBool (s.heldFlag c)
    ++ BitVec.ofBool l.overrun ++ BitVec.ofBool l.framing ++ BitVec.ofBool l.store
    ++ BitVec.ofNat 3 s.eng.state.code ++ BitVec.ofNat 3 s.sel.state.code
    ++ BitVec.ofBool s.office.clock.isSome ++ BitVec.ofNat 6 s.queue.entries.length
    ++ BitVec.ofBool l.assembly.isAssembling ++ BitVec.ofNat 4 l.assembly.received ++ 0#6

/-- The trigger signal of one band's laser (the signal list of the introduction; R85). -/
def State.laserOn (s : State) (b : Band) : Bool := decide (s.eng.trigger = some b)

end Sys2Proof.Machine
end

