-- ==== Sys2Proof/Machine/Operands.lean ====
section
/-! DEFINITION. What a request's parameters stand for and how they are checked: ports and their claimants (R3),
kinds and bands (R167), and the adjustment of a profile (R10, R11). -/

namespace Sys2Proof.Machine

/-- The 14 response codes, in the order of 11.6. -/
inductive RespCode where
  | ok | adjusted | merged | upgraded | notOwner | taken | badPort | badValue | full | share
  | unknown | tooLate | notAllowed | malformed
  deriving DecidableEq, Repr

/-- What a block answers: the code and the body's payloads (R168). -/
structure Response where
  code : RespCode
  body : List Payload
  deriving DecidableEq, Repr

/-- A response with no body. -/
def Response.plain (code : RespCode) : Response := { code := code, body := [] }

/-! ### Checks of R3 -/

/-- A parameter as a port number; none above 31 (R3 check 2). -/
def portOf (v : Payload) : Option PortNo := if h : v.toNat < 32 then some ⟨v.toNat, h⟩ else none

/-- Checks 2 and 3 of R3: the port, or BAD_PORT or NOT_OWNER. -/
def ownedPort (s : State) (c : Client) (v : Payload) : Except RespCode PortNo :=
  match portOf v with
  | none => .error .badPort
  | some p => if (s.ports.at p).claimant = some c then .ok p else .error .notOwner

/-- A parameter as a band: 0 for A, 1 for B (R167). -/
def bandOf (v : Payload) : Option Band :=
  if v = 0#30 then some .A else if v = 1#30 then some .B else none

/-- The kind a SCHEDULE may ask for; CONFIRM, an unassigned code and a BASELINE of no band are none, and the band
of a ROUTINE or URGENT is not examined (R22 check 4). -/
def scheduledKind (kind band : Payload) : Option Kind :=
  if kind = 0#30 then some .routine
  else if kind = 1#30 then some .urgent
  else if kind = 2#30 then (bandOf band).map Kind.baseline
  else none

/-! ### Profiles (R10, R11) -/

/-- A value below the range becomes the lowest legal value and one above it the highest (R10). -/
def clamp (low high v : Nat) : Nat := max low (min high v)

/-- The legal point count for a value (R10). -/
def legalPoints (v : Nat) : Nat :=
  if 16384 ≤ v then 16384
  else if 8192 ≤ v then 8192
  else if 4096 ≤ v then 4096
  else if 2048 ≤ v then 2048
  else 1024

/-- The legal smoothing for a value (R10). -/
def legalSmoothing (v : Nat) : Nat :=
  if 32 ≤ v then 32
  else if 16 ≤ v then 16
  else if 8 ≤ v then 8
  else if 4 ≤ v then 4
  else if 2 ≤ v then 2
  else 1

/-- The dead-zone check: the pulse code is lowered while i0 ≥ P / 2 (R11). -/
def deadZonePulse (period points : Nat) : Nat → Nat
  | 0 => 0
  | pulse + 1 =>
    if points / 2 ≤ deadZoneEnd (pulse + 1) period then deadZonePulse period points pulse else pulse + 1

/-- The fields brought one by one into their legal values (R10). -/
def clampFields (f : ProfileWords) : Profile where
  groupIndex := clamp 140000 160000 f.groupIndex.toNat
  period := clamp 0 5 f.period.toNat
  points := legalPoints f.points.toNat
  pulse := clamp 0 6 f.pulse.toNat
  averages := clamp 8 16 f.averages.toNat
  floorMargin := clamp 1 255 f.floorMargin.toNat
  stepThreshold := clamp 4 255 f.stepThreshold.toNat
  reflectionThreshold := clamp 16 1023 f.reflectionThreshold.toNat
  smoothing := legalSmoothing f.smoothing.toNat
  confirmLength := clamp 1 64 f.confirmLength.toNat
  bendMargin := clamp 0 5000 f.bendMargin.toNat
  matchDistance := clamp 1 10000 f.matchDistance.toNat
  bandAEnable := decide (f.bandAEnable ≠ 0#30)
  losEnable := decide (f.losEnable ≠ 0#30)

/-- The profile a SET PROFILE stores (R10, R11). -/
def adjustProfile (f : ProfileWords) : Profile :=
  let p := clampFields f
  { p with pulse := deadZonePulse p.period p.points p.pulse }

/-- A stored field differs from the value the request carried; the two enables are always legal (R10). -/
def differsFrom (p : Profile) (f : ProfileWords) : Bool :=
  decide (p.groupIndex ≠ f.groupIndex.toNat) || decide (p.period ≠ f.period.toNat)
    || decide (p.points ≠ f.points.toNat) || decide (p.pulse ≠ f.pulse.toNat)
    || decide (p.averages ≠ f.averages.toNat) || decide (p.floorMargin ≠ f.floorMargin.toNat)
    || decide (p.stepThreshold ≠ f.stepThreshold.toNat)
    || decide (p.reflectionThreshold ≠ f.reflectionThreshold.toNat)
    || decide (p.smoothing ≠ f.smoothing.toNat) || decide (p.confirmLength ≠ f.confirmLength.toNat)
    || decide (p.bendMargin ≠ f.bendMargin.toNat) || decide (p.matchDistance ≠ f.matchDistance.toNat)

/-- Every field holds a legal value and the dead zone ends below P / 2 (R9). -/
def Profile.legal (p : Profile) : Bool :=
  decide (140000 ≤ p.groupIndex ∧ p.groupIndex ≤ 160000) && decide (p.period ≤ 5)
    && [1024, 2048, 4096, 8192, 16384].contains p.points && decide (p.pulse ≤ 6)
    && decide (8 ≤ p.averages ∧ p.averages ≤ 16) && decide (1 ≤ p.floorMargin ∧ p.floorMargin ≤ 255)
    && decide (4 ≤ p.stepThreshold ∧ p.stepThreshold ≤ 255)
    && decide (16 ≤ p.reflectionThreshold ∧ p.reflectionThreshold ≤ 1023)
    && [1, 2, 4, 8, 16, 32].contains p.smoothing
    && decide (1 ≤ p.confirmLength ∧ p.confirmLength ≤ 64) && decide (p.bendMargin ≤ 5000)
    && decide (1 ≤ p.matchDistance ∧ p.matchDistance ≤ 10000)
    && decide (deadZoneEnd p.pulse p.period < p.points / 2)

end Sys2Proof.Machine
end

