-- ==== Sys2Proof/Machine/Responses.lean ====
section
/-! DEFINITION. The bodies of responses, value by value as R168 and R175 encode them. -/

namespace Sys2Proof.Machine

/-- The response code's number (11.6). -/
def RespCode.number : RespCode → Nat
  | .ok => 0
  | .adjusted => 1
  | .merged => 2
  | .upgraded => 3
  | .notOwner => 4
  | .taken => 5
  | .badPort => 6
  | .badValue => 7
  | .full => 8
  | .share => 9
  | .unknown => 10
  | .tooLate => 11
  | .notAllowed => 12
  | .malformed => 13

/-! ### Values (R168) -/

/-- A number in the low bits of the payload. -/
def num (n : Nat) : Payload := BitVec.ofNat 30 n

/-- A field, record, clock or target that is absent: a payload of all ones. -/
def absent : Payload := BitVec.allOnes 30

/-- A field that may be absent. -/
def optNum : Option Nat → Payload
  | some n => num n
  | none => absent

/-- A flag: 1 if set, 0 if cleared. -/
def flag (b : Bool) : Payload := num b.toNat

/-- A flag that may be absent. -/
def optFlag : Option Bool → Payload
  | some b => flag b
  | none => absent

/-- A band: 0 for A, 1 for B. -/
def bandCode : Band → Nat
  | .A => 0
  | .B => 1

/-- A kind's place in its list. -/
def Kind.code : Kind → Nat
  | .routine => 0
  | .urgent => 1
  | .baseline _ => 2
  | .confirm => 3

/-- The band of a BASELINE kind. -/
def Kind.band : Kind → Option Band
  | .baseline b => some b
  | _ => none

/-- A status's place in its list (R14). -/
def Status.code : Status → Nat
  | .done => 0
  | .cancelled => 1
  | .evicted => 2
  | .failed => 3

/-- A cause's place in its list (R14). -/
def Cause.code : Cause → Nat
  | .selector => 0
  | .disturbed => 1

/-- A baseline match's place in its list (R14). -/
def BaselineMatch.code : BaselineMatch → Nat
  | .matching => 0
  | .noBaseline => 1
  | .mismatch => 2

/-- A set of bands: 1 for A plus 2 for B. -/
def BandSet.code (x : BandSet) : Nat := x.a.toNat + 2 * x.b.toNat

/-! ### Records -/

/-- A profile, field by field in the order of R9; an enable is sent 1 for yes (log entry 10). -/
def Profile.body (p : Profile) : List Payload :=
  [num p.groupIndex, num p.period, num p.points, num p.pulse, num p.averages, num p.floorMargin,
    num p.stepThreshold, num p.reflectionThreshold, num p.smoothing, num p.confirmLength, num p.bendMargin,
    num p.matchDistance, flag p.bandAEnable, flag p.losEnable]

/-- The four per-band fields of a result (R14). -/
def BandResult.body (r : BandResult) : List Payload :=
  [flag r.run, optNum (r.baseline.map BaselineMatch.code), optNum r.endIndex, optNum r.dark]

/-- The seventeen fields of a result record (11.6). -/
def ResultRecord.body (r : ResultRecord) : List Payload :=
  [num r.ticket, num r.kind.code, optNum (r.kind.band.map bandCode), num r.status.code,
    optNum (r.cause.map Cause.code)]
    ++ r.bands.a.body ++ r.bands.b.body
    ++ [num r.findings, flag r.more, flag r.tableFull, optNum r.time]

/-- The body of GET RESULT; an absent record is one all-ones word (11.6). -/
def resultBody : Option ResultRecord → List Payload
  | some r => r.body
  | none => [absent]

/-- One half of a trace point word: below-floor, clip, level + 4096 (R175). -/
def pointHalf (p : TracePoint) : BitVec 15 :=
  BitVec.ofBool p.below ++ BitVec.ofBool p.clip ++ BitVec.ofInt 13 (p.level + 4096)

/-- Trace point words, two points each; an odd last one is followed by all ones (R175). -/
def pointWords : List TracePoint → List Payload
  | [] => []
  | [p] => [pointHalf p ++ BitVec.allOnes 15]
  | p :: q :: rest => (pointHalf p ++ pointHalf q) :: pointWords rest

/-- The points asked for: n = min(count, P − first) of them from `first` on (R94, R155). -/
def pointsFrom (points : List TracePoint) (total first count : Nat) : List TracePoint :=
  (List.range (min count (total - first))).map (fun j => pointAt points (first + j))

/-- The code of bands evaluated in a fault descriptor (R175). -/
def bandsEvalCode : Option BandsEval → Nat
  | some .bOnly => 0
  | some .aOnly => 1
  | some .both => 2
  | none => 3

/-- The code of saturated in a fault descriptor (R175). -/
def saturatedCode : Option Bool → Nat
  | some false => 0
  | some true => 1
  | none => 3

/-- A fault kind's code (R175). -/
def FaultKind.code : FaultKind → Nat
  | .brk => 0
  | .reflection => 1
  | .step => 2
  | .bend => 3

/-- A fault state's code (R175). -/
def FaultState.code : FaultState → Nat
  | .new => 0
  | .active => 1
  | .cleared => 2

/-- The fault descriptor word (R175). -/
def FaultEntry.descriptor (e : FaultEntry) : Payload :=
  BitVec.ofNat 6 e.id ++ BitVec.ofNat 5 e.port.val ++ BitVec.ofNat 2 e.det.kind.code
    ++ BitVec.ofNat 2 e.state.code ++ BitVec.ofNat 2 (bandsEvalCode e.det.bands)
    ++ BitVec.ofNat 2 (saturatedCode e.det.saturated) ++ BitVec.ofNat 2 e.misses
    ++ BitVec.ofBool e.acked ++ 0#8

/-- The height word: tu in 14 bits, mdB in 16, all ones when absent (R175). -/
def heightWord : Option Height → Payload
  | some h => BitVec.ofInt 14 h.tu ++ BitVec.ofInt 16 h.mdB
  | none => absent

/-- The nine words of a fault entry (R175). -/
def FaultEntry.body (e : FaultEntry) : List Payload :=
  [e.descriptor, BitVec.ofNat 15 e.det.location ++ BitVec.ofNat 15 (e.det.lossPoint.getD 32767), num e.spacing,
    num e.det.distance, optNum (e.det.loss.map Int.toNat), heightWord e.det.height, num e.firstTicket,
    num e.lastTicket, num e.hits]

/-- The kind and origin code of a queue entry word (R175). -/
def queueKindCode (k : Kind) (o : Origin) : Nat :=
  match k, o with
  | .routine, _ => 0
  | .urgent, .los => 2
  | .urgent, _ => 1
  | .baseline .A, _ => 3
  | .baseline .B, _ => 4
  | .confirm, _ => 5

/-- The word of one queue entry at a position counted from 0 (R175). -/
def queueWord (e : Entry) (index : Nat) : Payload :=
  BitVec.ofBool e.run.isSome ++ BitVec.ofNat 5 index ++ BitVec.ofNat 16 e.ticket ++ BitVec.ofNat 5 e.port.val
    ++ BitVec.ofNat 3 (queueKindCode e.kind e.origin)

/-- The words of the client's entries in age order, each with its position over all entries (R28). -/
def queueWords (c : Client) : List Entry → Nat → List Payload
  | [], _ => []
  | e :: rest, i => if e.client = c then queueWord e i :: queueWords c rest (i + 1) else queueWords c rest (i + 1)

/-- A latch word: bit i stands for the i-th port from `base` on, set if the port is the client's and its latch is
set (R175). -/
def State.latchWord (s : State) (c : Client) (base : Nat) : Payload :=
  num ((portList.filter (fun p => decide (base ≤ p.val ∧ p.val < base + 16)
    && decide ((s.port p).claimant = some c) && s.queue.latches.at p)).map (fun p => 2 ^ (p.val - base))).sum

/-- The four words on the client's RUNNING entry, all absent if it has none (R175). -/
def runningWords (c : Client) (q : TestQueue) : List Payload :=
  match q.running with
  | some { client := d, run := some ri, .. } =>
    if d = c then [num ri.plan.code, num ri.done.code, flag ri.suspended, flag ri.cancelPending]
    else [absent, absent, absent, absent]
  | _ => [absent, absent, absent, absent]

/-- The header fields of R143 as a read serves them, or one absent record (R153, R168; log entry 11). -/
def headerBody : Option Capture → List Payload
  | some c =>
    [num 1, num c.port.val, num (bandCode c.band), num c.points, num c.period, num c.pulse, num c.averages,
      num c.groupIndex, num c.endIndex, num c.dark, num c.ticket, optNum c.time]
  | none => [absent]

/-- The operation and state of a commit entry (R153). -/
def Commit.body (e : Commit) : List Payload :=
  [num (match e.op with | .write _ => 0 | .erase => 1), flag e.writing]

/-- Two entry places, oldest first, a missing one with both values absent (R153). -/
def commitPlaces (es : List Commit) : List Payload :=
  match es with
  | [] => [absent, absent, absent, absent]
  | [e] => e.body ++ [absent, absent]
  | e :: f :: _ => e.body ++ f.body

end Sys2Proof.Machine
end

