-- ==== Sys2Proof/Machine/FindingRequests.lean ====
section
/-! DEFINITION. The fault table's requests (8.6): GET FINDINGS, ACK FINDING, DELETE FINDING. -/

namespace Sys2Proof.Machine

/-- The fault entries of a port in creation order (R138). -/
def State.faultsOf (s : State) (p : PortNo) : List FaultEntry := s.faults.filter (fun e => decide (e.port = p))

/-- GET FINDINGS (R138). -/
def doGetFindings (c : Client) (port first : Payload) (s : State) : Response × State :=
  match ownedPort s c port with
  | .error r => (.plain r, s)
  | .ok p =>
    if 64 ≤ first.toNat then (.plain .badValue, s)
    else
      let shown := ((s.faultsOf p).drop first.toNat).take Config.findingsPerResponse
      ({ code := .ok
         body := [num (s.faultsOf p).length, num s.faults.length, num first.toNat]
           ++ (shown.map (fun e => e.body)).flatten },
        s.setPort p { s.port p with unseen := false })

/-- The entry of the port that holds an id (R139 check 5). -/
def State.faultById (s : State) (p : PortNo) (id : Nat) : Option FaultEntry :=
  s.faults.find? (fun e => decide (e.port = p) && decide (e.id = id))

/-- ACK FINDING (R139). -/
def doAckFinding (c : Client) (port entry : Payload) (s : State) : Response × State :=
  match ownedPort s c port with
  | .error r => (.plain r, s)
  | .ok p =>
    if 64 ≤ entry.toNat then (.plain .badValue, s)
    else
      match s.faultById p entry.toNat with
      | none => (.plain .unknown, s)
      | some e => (.plain .ok, s.setFaults (replaceEntry s.faults { e with acked := true }))

/-- DELETE FINDING (R140). -/
def doDeleteFinding (c : Client) (port entry : Payload) (s : State) : Response × State :=
  match ownedPort s c port with
  | .error r => (.plain r, s)
  | .ok p =>
    if 64 ≤ entry.toNat then (.plain .badValue, s)
    else
      match s.faultById p entry.toNat with
      | none => (.plain .unknown, s)
      | some e =>
        if e.state = .cleared then (.plain .ok, s.setFaults (removeEntry s.faults e.id))
        else (.plain .notAllowed, s)

end Sys2Proof.Machine
end

