-- ==== Sys2Proof/Machine/HoldRequests.lean ====
section
/-! DEFINITION. HOLD and RESUME (chapter 10), HOME (R73), and the selector's events (chapter 4). -/

namespace Sys2Proof.Machine

/-- Members and Granted, taken after the request has acted (R157, R160). -/
def State.holdAnswer (s : State) : Response :=
  { code := .ok, body := [num s.hold.list.length, flag s.isHeld] }

/-- HOLD (R157, R158). -/
def doHold (c : Client) (s : State) : Response × State := ((s.joinHold c).holdAnswer, s.joinHold c)

/-- The state after a RESUME from client c: unchanged when c is not in the hold set; otherwise c has left it, and the
arbiter may choose (R160, R161). -/
def State.resumeFrom (s : State) (c : Client) : State :=
  if s.hold.members.at c then (s.leaveHold c).arbitrate else s

/-- RESUME (R160, R161). -/
def doResume (c : Client) (s : State) : Response × State := ((s.resumeFrom c).holdAnswer, s.resumeFrom c)

/-- HOME is accepted: LOST or FAULT in any engine state, SETTLED while the engine is IDLE or HELD (R73). -/
def State.homeAllowed (s : State) : Bool :=
  match s.sel.state with
  | .lost => true
  | .fault => true
  | .settled => decide (s.eng.state = .idle) || decide (s.eng.state = .held)
  | .homing => false
  | .moving => false
  | .settling => false

/-- HOME (R73): homing begins with no pending target, and rotation is reported to a HELD engine (R71). -/
def doHome (s : State) : Response × State :=
  if s.homeAllowed then (.plain .ok, ((s.setSel (s.sel.beginHoming none)).markRestart).arbitrate)
  else (.plain .notAllowed, s)

/-- ENCODER_COUNT: one edge of line A or B (R56). -/
def execEncoderCount (e : EncoderEdge) (s : State) : Host.Outcome State Fault Refusal :=
  .next (s.selEvent (s.sel.takeCount (edgeDir e) s.isHeld)).arbitrate

/-- ENCODER_ERROR: one change of both lines (R57). -/
def execEncoderError (s : State) : Host.Outcome State Fault Refusal := .next (s.selEvent s.sel.takeError).arbitrate

/-- INDEX_EDGE: the leading edge of the index mark (R58). -/
def execIndexEdge (s : State) : Host.Outcome State Fault Refusal :=
  .next (s.selEvent (s.sel.takeIndex s.isHeld)).arbitrate

/-- MOVE_TIMEOUT (R63). -/
def execMoveTimeout (s : State) : Host.Outcome State Fault Refusal := .next (s.selEvent s.sel.moveExpires).arbitrate

/-- SETTLE_EXPIRY (R64). -/
def execSettleExpiry (s : State) : Host.Outcome State Fault Refusal := .next (s.selEvent s.sel.settleExpires).arbitrate

/-- HOMING_TIMEOUT (R68). -/
def execHomingTimeout (s : State) : Host.Outcome State Fault Refusal := .next (s.selEvent s.sel.homingExpires).arbitrate

end Sys2Proof.Machine
end

