-- ==== Sys2Proof/Machine/OfficeRequests.lean ====
section
/-! DEFINITION. The office clock and the quiet windows (chapter 3): SET CLOCK, SET WINDOW, and the clock's advance. -/

namespace Sys2Proof.Machine

/-- SET CLOCK (R44). -/
def doSetClock (seconds : Payload) (s : State) : Response × State :=
  if Config.secondsPerDay ≤ seconds.toNat then (.plain .badValue, s)
  else
    ({ code := .ok, body := [num seconds.toNat] },
      (s.setOffice { s.office with clock := some seconds.toNat }).arbitrate)

/-- SET WINDOW: both minutes replaced as one change, and whether the window is open now (R47). -/
def doSetWindow (c : Client) (start stop : Payload) (s : State) : Response × State :=
  if Config.minutesPerDay ≤ start.toNat ∨ Config.minutesPerDay ≤ stop.toNat then (.plain .badValue, s)
  else
    let w : Window := { start := start.toNat, stop := stop.toNat }
    ({ code := .ok, body := [num w.start, num w.stop, flag (w.isOpen s.office.clock)] },
      (s.setOffice { s.office with windows := s.office.windows.put c w }).arbitrate)

/-- The clock value one second on, wrapping from 86,399 to 0 (R43). -/
def nextSecond (v : Nat) : Nat := if Config.secondsPerDay ≤ v + 1 then 0 else v + 1

/-- CLOCK_ADVANCE: a SET clock advances; a minute change is offered to the arbiter (R43, R45). -/
def execClockAdvance (s : State) : Host.Outcome State Fault Refusal :=
  .next (match s.office.clock with
    | none => s
    | some v =>
      let t := s.setOffice { s.office with clock := some (nextSecond v) }
      if nextSecond v % 60 = 0 then t.arbitrate else t)

end Sys2Proof.Machine
end

