-- ==== Sys2Proof/Machine/PortRequests.lean ====
section
/-! DEFINITION. The port table's requests (chapter 1): CLAIM, RELEASE, SET PROFILE, GET PROFILE, GET RESULT. Each
takes the requesting client and its parameters and answers the response and the new state. -/

namespace Sys2Proof.Machine

/-- CLAIM (R4). -/
def doClaim (c : Client) (port : Payload) (s : State) : Response × State :=
  match portOf port with
  | none => (.plain .badPort, s)
  | some p =>
    match (s.port p).claimant with
    | none => (.plain .ok, s.setPort p { s.port p with claimant := some c })
    | some d => if d = c then (.plain .ok, s) else (.plain .taken, s)

/-- The test in hand of a released port is detached; one that is parked ends at once (R6). -/
def State.detach (s : State) : State :=
  let t := s.setEng { s.eng with hand := .detached }
  if s.eng.state = .held then t.clearMark.discardWork.leaveTest else t

/-- The RUNNING entry is the port's (R6). -/
def State.runsPort (s : State) (p : PortNo) : Bool :=
  match s.queue.running with
  | some e => decide (e.port = p)
  | none => false

/-- The last-trace pair is emptied if it is the port's (R7). -/
def Engine.forgetPair (eng : Engine) (p : PortNo) : Engine :=
  match eng.lastPair with
  | some x => if x.port = p then { eng with lastPair := none } else eng
  | none => eng

/-- The release of a claimed port as one event: record, entries, test, fault entries, latch and last-trace pair, then
the latch drain of other ports (R5, R6, R7). -/
def State.releasePort (s : State) (p : PortNo) : State :=
  let detached := if s.runsPort p then s.detach else s
  let freed := (((detached.setPort p PortRecord.free).setFaults
      (detached.faults.filter (fun e => decide (e.port ≠ p)))).setEng (detached.eng.forgetPair p)).setQueue
      (detached.queue.setLatch p false)
  freed.depart (fun e => decide (e.port = p))

/-- RELEASE (R5). -/
def doRelease (c : Client) (port : Payload) (s : State) : Response × State :=
  match ownedPort s c port with
  | .error r => (.plain r, s)
  | .ok p => (.plain .ok, (s.releasePort p).arbitrate)

/-- SET PROFILE (R10, R11). -/
def doSetProfile (c : Client) (port : Payload) (f : ProfileWords) (s : State) : Response × State :=
  match ownedPort s c port with
  | .error r => (.plain r, s)
  | .ok p =>
    let stored := adjustProfile f
    ({ code := if differsFrom stored f then .adjusted else .ok, body := stored.body },
      s.setPort p { s.port p with profile := stored })

/-- GET PROFILE: the stored profile, i0 and S (R13). -/
def doGetProfile (c : Client) (port : Payload) (s : State) : Response × State :=
  match ownedPort s c port with
  | .error r => (.plain r, s)
  | .ok p =>
    let x := (s.port p).profile
    ({ code := .ok
       body := x.body ++ [num (deadZoneEnd x.pulse x.period), num (spacing x.groupIndex x.period)] }, s)

/-- GET RESULT (R16). -/
def doGetResult (c : Client) (port : Payload) (s : State) : Response × State :=
  match ownedPort s c port with
  | .error r => (.plain r, s)
  | .ok p =>
    ({ code := .ok, body := resultBody (s.port p).result }, s.setPort p { s.port p with unread := false })

end Sys2Proof.Machine
end

