-- ==== Sys2Proof/Machine/QueueRequests.lean ====
section
/-! DEFINITION. The test queue's requests and the loss-of-light edge (chapter 2): SCHEDULE, CANCEL, LIST QUEUE. -/

namespace Sys2Proof.Machine

/-! ### SCHEDULE (R22 to R24) -/

/-- A response that carries a ticket. -/
def Response.ticket (code : RespCode) (t : Nat) : Response := { code := code, body := [num t] }

/-- A new URGENT clears its port's latch; another kind leaves it (R39). -/
def TestQueue.clearLatchFor (q : TestQueue) (p : PortNo) (k : Kind) : TestQueue :=
  if k = .urgent then q.setLatch p false else q

/-- A SCHEDULE that needs a new entry: FULL, SHARE, or admitted (R24). -/
def State.scheduleNew (s : State) (c : Client) (p : PortNo) (k : Kind) : Response × State :=
  if s.queue.isFull then (.plain .full, s)
  else if Config.shareLimit ≤ s.queue.shareCount c then (.plain .share, s)
  else
    (.ticket .ok s.queue.nextTicket,
      (s.setQueue ((s.queue.addEntry c p k .request).clearLatchFor p k)).arbitrate)

/-- The duplicate rules, then admission (R23). -/
def State.scheduleKind (s : State) (c : Client) (p : PortNo) (k : Kind) : Response × State :=
  match s.queue.findQueued p k with
  | some e => (.ticket .merged e.ticket, s)
  | none =>
    match k with
    | .routine =>
      match s.queue.findQueued p .urgent with
      | some e => (.ticket .merged e.ticket, s)
      | none => s.scheduleNew c p k
    | .urgent =>
      match s.queue.findQueued p .routine with
      | some e => (.ticket .upgraded e.ticket, (s.setQueue ((s.queue.upgrade p).setLatch p false)).arbitrate)
      | none => s.scheduleNew c p k
    | .baseline _ => s.scheduleNew c p k
    | .confirm => s.scheduleNew c p k

/-- SCHEDULE (R22). -/
def doSchedule (c : Client) (port kind band : Payload) (s : State) : Response × State :=
  match ownedPort s c port with
  | .error r => (.plain r, s)
  | .ok p =>
    match scheduledKind kind band with
    | none => (.plain .badValue, s)
    | some k => s.scheduleKind c p k

/-! ### CANCEL (R25, R26) -/

/-- A QUEUED entry removed with a CANCELLED result; the latch drain follows (R25). -/
def State.cancelQueued (s : State) (e : Entry) : State :=
  (s.writeResult e.port (queuedResult e .cancelled s.office.clock)).depart
    (fun x => decide (x.run = none) && decide (x.ticket = e.ticket))

/-- Cancel pending set on the RUNNING entry (R26). -/
def State.setCancelPending (s : State) : State :=
  s.setQueue (s.queue.setRun (fun ri => { ri with cancelPending := true }))

/-- A CANCEL of a RUNNING entry, by the engine's state (R26). -/
def State.cancelRunning (s : State) (ri : RunInfo) : Response × State :=
  if ri.cancelPending then (.plain .ok, s)
  else
    match s.eng.state with
    | .analyse => (.plain .tooLate, s)
    | .held => (.plain .ok, s.clearMark.cancelTest.arbitrate)
    | .idle => (.plain .ok, s.setCancelPending)
    | .position => (.plain .ok, s.setCancelPending)
    | .dark => (.plain .ok, s.setCancelPending)
    | .acquire => (.plain .ok, s.setCancelPending)
    | .draining => (.plain .ok, s.setCancelPending)

/-- CANCEL (R25, R26). -/
def doCancel (c : Client) (ticket : Payload) (s : State) : Response × State :=
  match s.queue.entries.find? (fun e => decide (e.ticket = ticket.toNat)) with
  | none => (.plain .unknown, s)
  | some e =>
    if e.client = c then
      match e.run with
      | none => (.plain .ok, (s.cancelQueued e).arbitrate)
      | some ri => s.cancelRunning ri
    else (.plain .notOwner, s)

/-! ### LIST QUEUE (R28) -/

/-- LIST QUEUE (R28, R175). -/
def doListQueue (c : Client) (s : State) : Response × State :=
  ({ code := .ok
     body := [num s.queue.entries.length, num (s.queue.shareCount c), num s.queue.pointer.val,
         s.latchWord c 0, s.latchWord c 16]
       ++ runningWords c s.queue ++ queueWords c s.queue.entries 0 }, s)

/-! ### Loss of light (R36 to R38) -/

/-- The newest QUEUED ROUTINE entry (R38). -/
def TestQueue.newestRoutine (q : TestQueue) : Option Entry :=
  q.entries.reverse.find? (fun e => decide (e.run = none) && decide (e.kind = .routine))

/-- A new URGENT of origin LOS for the port's claimant, whose latch is cleared (R37, R39). -/
def State.admitLos (s : State) (p : PortNo) (c : Client) : State :=
  s.setQueue ((s.queue.addEntry c p .urgent .los).setLatch p false)

/-- The eviction of a QUEUED ROUTINE entry: it leaves with an EVICTED result, and no drain runs (R38). -/
def State.evict (s : State) (e : Entry) : State :=
  let t := s.writeResult e.port (queuedResult e .evicted s.office.clock)
  t.setQueue (t.queue.drop (fun x => decide (x.run = none) && decide (x.ticket = e.ticket)))

/-- An edge that is not ignored, by the first line of R37's table that holds. -/
def State.takeLos (s : State) (p : PortNo) (c : Client) : State :=
  if (s.queue.findQueued p .urgent).isSome then s
  else if (s.queue.findQueued p .routine).isSome then (s.setQueue ((s.queue.upgrade p).setLatch p false)).arbitrate
  else if s.queue.urgentRunning p then s.setQueue (s.queue.setLatch p true)
  else if s.queue.isFull then
    match s.queue.newestRoutine with
    | some e => ((s.evict e).admitLos p c).arbitrate
    | none => s.setQueue (s.queue.setLatch p true)
  else (s.admitLos p c).arbitrate

/-- LOS_EDGE: ignored on an unclaimed port or with LOS urgent enable off, otherwise taken (R36, R37). -/
def execLosEdge (p : PortNo) (s : State) : Host.Outcome State Fault Refusal :=
  .next (match (s.port p).claimant with
    | none => s
    | some c => if (s.port p).profile.losEnable then s.takeLos p c else s)

end Sys2Proof.Machine
end

