-- ==== Sys2Proof/Machine/StoreRequests.lean ====
section
/-! DEFINITION. The baseline store's requests (9.5) and the end of programming (R151). -/

namespace Sys2Proof.Machine

/-- Matches profile: the read copy's P, p and pulse code equal the stored profile's (R153). -/
def matchesProfile (x : Option Capture) (p : Profile) : Bool :=
  match x with
  | some c => decide (c.points = p.points ∧ c.period = p.period ∧ c.pulse = p.pulse)
  | none => false

/-- What BASELINE INFO gives for one slot (R153). -/
def State.slotInfo (s : State) (p : PortNo) (b : Band) : List Payload :=
  let slot := slotOf p b
  let copy := s.store.read slot
  let stored := s.store.slots.at slot
  [flag copy.isSome] ++ headerBody copy ++ [flag stored.isSome, optNum (stored.map (fun c => c.ticket))]
    ++ commitPlaces (s.store.commits.filter (fun e => decide (e.slot = slot)))
    ++ [flag (matchesProfile copy (s.port p).profile)]

/-- BASELINE INFO (R153). -/
def doBaselineInfo (c : Client) (port : Payload) (s : State) : Response × State :=
  match ownedPort s c port with
  | .error r => (.plain r, s)
  | .ok p =>
    ({ code := .ok
       body := [num s.store.commits.length, num s.store.freeCount] ++ s.slotInfo p .A ++ s.slotInfo p .B }, s)

/-- An ERASE for a slot: no change where it reads EMPTY, in place of a QUEUED WRITE, FULL, or appended (R154). -/
def State.eraseSlot (s : State) (slot : Fin 64) : Response × State :=
  if s.store.read slot = none then (.plain .ok, s)
  else if (s.store.commits.find? (fun e => e.waitsFor slot)).isSome = false ∧ s.store.isFull = true then
    (.plain .full, s)
  else (.plain .ok, (s.setStore (s.store.place slot .erase)).arbitrate)

/-- ERASE BASELINE (R154). -/
def doEraseBaseline (c : Client) (port band : Payload) (s : State) : Response × State :=
  match ownedPort s c port with
  | .error r => (.plain r, s)
  | .ok p =>
    match bandOf band with
    | none => (.plain .badValue, s)
    | some b => s.eraseSlot (slotOf p b)

/-- The STORE flag set for the client that claims a slot's port, if one does (R151). -/
def State.raiseStore (s : State) (slot : Fin 64) : State :=
  match (s.port (slotPort slot)).claimant with
  | some c => s.setLink c { s.link c with store := true }
  | none => s

/-- PROGRAMMING_END: what the memory returns is compared with what was to be written, and the head's programming ends
verified or failed (R151; log entry 23). -/
def execProgrammingEnd (r : ReadBack) (s : State) : Host.Outcome State Fault Refusal :=
  .next (match s.store.writingHead with
    | none => s
    | some e =>
      let t := s.setStore (s.store.endProgramming (s.store.verifies e.op r))
      (if s.store.verifies e.op r then t else t.raiseStore e.slot).arbitrate)

end Sys2Proof.Machine
end

