-- ==== Sys2Proof/Machine/TraceRequests.lean ====
section
/-! DEFINITION. GET TRACE of the last-trace pair (R93, R94) and of a baseline slot (R155). -/

namespace Sys2Proof.Machine

/-- Check 4's point count: 1 to 60 (R93, R155). -/
def countLegal (count : Payload) : Bool := decide (1 ≤ count.toNat ∧ count.toNat ≤ 60)

/-- The descriptive part and the points of a last trace (R94, R175). -/
def lastTraceBody (pair : LastPair) (t : Trace) (first count : Nat) : List Payload :=
  let points := pointsFrom t.points pair.points first count
  [num pair.port.val, num pair.ticket, num pair.kind.code, optNum (pair.kind.band.map bandCode), num pair.points,
    num pair.period, num pair.pulse, num pair.averages, num pair.groupIndex, num t.endIndex, num t.dark,
    num points.length] ++ pointWords points

/-- The last-trace pair's trace for a port and band (R93 check 5). -/
def Engine.lastTrace (eng : Engine) (p : PortNo) (b : Band) : Option (LastPair × Trace) :=
  match eng.lastPair with
  | none => none
  | some pair => if pair.port = p then (pair.traces.at b).map (fun t => (pair, t)) else none

/-- Checks 5 and 6 of source LAST, and its answer (R93, R94). -/
def State.answerLast (s : State) (p : PortNo) (b : Band) (first count : Payload) : Response :=
  match s.eng.lastTrace p b with
  | none => .plain .unknown
  | some (pair, t) =>
    if pair.points ≤ first.toNat then .plain .badValue
    else { code := .ok, body := lastTraceBody pair t first.toNat count.toNat }

/-- The copy is a commit entry's buffer not yet verified into the slot (R155). -/
def Store.isPending (st : Store) (slot : Fin 64) : Bool := (st.servingEntry slot).isSome

/-- The descriptive part and the points of a baseline (R155, R175). -/
def baselineTraceBody (c : Capture) (pending : Bool) (first count : Nat) : List Payload :=
  let points := pointsFrom c.levels c.points first count
  [num c.port.val, num (bandCode c.band), num c.points, num c.period, num c.pulse, num c.averages, num c.groupIndex,
    num c.endIndex, num c.dark, num c.ticket, optNum c.time, flag pending, num points.length] ++ pointWords points

/-- Checks 5 and 6 of source BASELINE, and its answer (R155). -/
def State.answerBaseline (s : State) (p : PortNo) (b : Band) (first count : Payload) : Response :=
  match s.store.read (slotOf p b) with
  | none => .plain .unknown
  | some c =>
    if c.points ≤ first.toNat then .plain .badValue
    else
      { code := .ok, body := baselineTraceBody c (s.store.isPending (slotOf p b)) first.toNat count.toNat }

/-- GET TRACE of source LAST (0) or BASELINE (1), with the checks of R93 and R155. -/
def doGetTrace (c : Client) (source port band first count : Payload) (s : State) : Response × State :=
  match ownedPort s c port with
  | .error r => (.plain r, s)
  | .ok p =>
    match bandOf band with
    | none => (.plain .badValue, s)
    | some b =>
      if countLegal count = false then (.plain .badValue, s)
      else if source = 0#30 then (s.answerLast p b first count, s)
      else if source = 1#30 then (s.answerBaseline p b first count, s)
      else (.plain .badValue, s)

end Sys2Proof.Machine
end

