-- ==== Sys2Proof/Machine/HighwayRequests.lean ====
section
/-! DEFINITION. STATUS and LINK RESET (11.7), the taking of a request by its link (R171), and the meaning of every
request row. -/

namespace Sys2Proof.Machine

/-! ### STATUS and LINK RESET -/

/-- The link with its three latched flags cleared (R174, R176, R177). -/
def Link.clearFlags (l : Link) : Link := { l with overrun := false, framing := false, store := false }

/-- STATUS: reported as it stands, then the latched flags of the client are cleared (R176). -/
def doStatus (c : Client) (s : State) : Response × State :=
  ({ code := .ok
     body := [num s.eng.state.code, num s.sel.state.code, optNum (s.sel.target.map (fun p => p.val)),
         optNum s.office.clock, num s.queue.entries.length, flag (s.hold.members.at c), num s.hold.list.length]
       ++ (s.attention c).map flag },
    s.setLink c (s.link c).clearFlags)

/-- The entry is QUEUED and the client's (R42). -/
def Entry.waitsFor (e : Entry) (c : Client) : Bool := decide (e.run = none) && decide (e.client = c)

/-- The CANCELLED results of the client's QUEUED entries, written in age order, so that the newest entry's record stands
where a port has several (R18, R42, R177; DESIGN CHOICE, log entry 37: the manual gives no order of the writes). -/
def State.cancelResults (s : State) (c : Client) : State :=
  (s.queue.entries.filter (fun e => e.waitsFor c)).foldl
    (fun t e => t.writeResult e.port (queuedResult e .cancelled s.office.clock)) s

/-- Every QUEUED entry of the client leaves with a CANCELLED result (R42); the drain waits for the end of the event
(R40). -/
def State.cancelAll (s : State) (c : Client) : State :=
  (s.cancelResults c).setQueue (s.queue.drop (fun e => e.waitsFor c))

/-- The latch drain of the event in which `s` has become `t`: it runs once, after all entries have left (R40). It runs
here when QUEUED entries of the client have left, unless the RUNNING entry has left too: the end of its test has then
run it, over the queue that all of them have left (R35 step 4). -/
def State.drainAfterReset (s t : State) (c : Client) : State :=
  if s.queue.entries.any (fun e => e.waitsFor c) = true ∧ (s.queue.running = none ∨ t.queue.running ≠ none) then t.drain
  else t

/-- LINK RESET as one event: flags cleared, QUEUED entries cancelled, the client removed from the hold set, and the
latch drain over the queue that all leaving entries have left, before the arbiter chooses over the entries that remain
(R40, R42, R164, R177). -/
def doLinkReset (c : Client) (s : State) : Response × State :=
  (.plain .ok, (s.drainAfterReset (((s.setLink c (s.link c).clearFlags).cancelAll c).leaveHold c) c).arbitrate)

/-! ### Taking a request (R171) -/

/-- The owning block's answer to a request: its checks, its effect, and its response. -/
def handle (c : Client) (r : Request) (s : State) : Response × State :=
  match r with
  | .claim port => doClaim c port s
  | .release port => doRelease c port s
  | .setProfile port fields => doSetProfile c port fields s
  | .getProfile port => doGetProfile c port s
  | .getResult port => doGetResult c port s
  | .schedule port kind band => doSchedule c port kind band s
  | .cancel ticket => doCancel c ticket s
  | .listQueue => doListQueue c s
  | .setWindow start stop => doSetWindow c start stop s
  | .setClock seconds => doSetClock seconds s
  | .home => doHome s
  | .getTrace source port band first count => doGetTrace c source port band first count s
  | .getFindings port first => doGetFindings c port first s
  | .ackFinding port entry => doAckFinding c port entry s
  | .deleteFinding port entry => doDeleteFinding c port entry s
  | .baselineInfo port => doBaselineInfo c port s
  | .eraseBaseline port band => doEraseBaseline c port band s
  | .hold => doHold c s
  | .resume => doResume c s
  | .status => doStatus c s
  | .linkReset => doLinkReset c s

/-- A response's words: header, then one DATA word per payload (R167, R168). -/
def Response.words (r : Response) (code : Nat) (tag : Tag) : List Word :=
  responseHeader (r.body.length + 1) r.code.number code tag :: r.body.map dataWord

/-- The request becomes the pending request and its response is placed in the response buffer (R171). -/
def State.respond (s : State) (c : Client) (code : Nat) (tag : Tag) (r : Response) : State :=
  s.setLink c { s.link c with
    pending := some { code := code, tag := tag }, response := r.words code tag, sent := 0 }

/-- The message is discarded whole and OVERRUN is set (R171 case 2). -/
def State.overrunOn (s : State) (c : Client) : State := s.setLink c { s.link c with overrun := true }

/-- A well-formed request taken: discarded while another is pending, but for a LINK RESET; otherwise delivered and
answered (R171). -/
def State.deliver (s : State) (c : Client) (tag : Tag) (r : Request) : State :=
  if (s.link c).pending.isSome = true ∧ r ≠ .linkReset then s.overrunOn c
  else (handle c r s).2.respond c r.code tag (handle c r s).1

/-- A completed message, the assembly buffer EMPTY again (R171). -/
def State.deliverMessage (s : State) (c : Client) (ws : List Word) : State :=
  match ws with
  | [] => s
  | h :: _ =>
    match decodeMessage ws with
    | some r => s.deliver c (headerTag h) r
    | none =>
      if (s.link c).pending.isSome then s.overrunOn c
      else s.respond c (headerCode h) (headerTag h) (.plain .malformed)

/-- The outbound word in progress has gone: a response whose last word it was leaves the buffer (R172). -/
def Link.wordGone (l : Link) : Link :=
  if l.response.length ≤ l.sent then { l with response := [], sent := 0 } else l

/-- The outbound slot in progress ends (R172; log entry 16). -/
def Highway.slotEnd (hw : Highway) : Highway :=
  match hw.tx with
  | none => hw
  | some t => { hw with tx := none, links := hw.links.put t.client (hw.links.at t.client).wordGone }

/-- The slot end on the whole state. -/
def State.slotEnd (s : State) : State := s.setHw s.hw.slotEnd

/-- The assembly buffer after a message's last word: EMPTY; a one-word message discards a partial one, which sets
FRAMING (R170, R171). -/
def Link.completed (l : Link) (single : Bool) : Link :=
  { l with assembly := .empty, framing := l.framing || (single && l.assembly.isAssembling) }

/-- The link's side of a message's last word, at the last bit of the client's slot. -/
def State.messageEnd (s : State) (c : Client) (single : Bool) : State :=
  s.slotEnd.setLink c ((s.slotEnd.link c).completed single)

/-- The event of a request's last word: nothing is taken without a frame (R165); otherwise the message completes and
is delivered (R171). -/
def State.takeRequest (s : State) (c : Client) (tag : Tag) (r : Request) : State :=
  if s.hw.frame = .aligned then (s.messageEnd c (decide (r.length = 1))).deliver c tag r else s

/-- The event of the last word of a message given by its words. -/
def State.takeMessage (s : State) (c : Client) (ws : List Word) : State :=
  if s.hw.frame = .aligned then (s.messageEnd c (decide (ws.length = 1))).deliverMessage c ws else s

/-! ### The request rows -/

/-- CLAIM (R4). -/
def execClaim (c : Client) (tag : Tag) (port : Payload) (s : State) : Host.Outcome State Fault Refusal :=
  .next (s.takeRequest c tag (.claim port))

/-- RELEASE (R5 to R7). -/
def execRelease (c : Client) (tag : Tag) (port : Payload) (s : State) : Host.Outcome State Fault Refusal :=
  .next (s.takeRequest c tag (.release port))

/-- SET PROFILE (R10, R11). -/
def execSetProfile (c : Client) (tag : Tag) (port : Payload) (fields : ProfileWords) (s : State) :
    Host.Outcome State Fault Refusal :=
  .next (s.takeRequest c tag (.setProfile port fields))

/-- GET PROFILE (R13). -/
def execGetProfile (c : Client) (tag : Tag) (port : Payload) (s : State) : Host.Outcome State Fault Refusal :=
  .next (s.takeRequest c tag (.getProfile port))

/-- GET RESULT (R16). -/
def execGetResult (c : Client) (tag : Tag) (port : Payload) (s : State) : Host.Outcome State Fault Refusal :=
  .next (s.takeRequest c tag (.getResult port))

/-- SCHEDULE (R22 to R24). -/
def execSchedule (c : Client) (tag : Tag) (port kind band : Payload) (s : State) : Host.Outcome State Fault Refusal :=
  .next (s.takeRequest c tag (.schedule port kind band))

/-- CANCEL (R25, R26). -/
def execCancel (c : Client) (tag : Tag) (ticket : Payload) (s : State) : Host.Outcome State Fault Refusal :=
  .next (s.takeRequest c tag (.cancel ticket))

/-- LIST QUEUE (R28). -/
def execListQueue (c : Client) (tag : Tag) (s : State) : Host.Outcome State Fault Refusal :=
  .next (s.takeRequest c tag .listQueue)

/-- SET WINDOW (R47). -/
def execSetWindow (c : Client) (tag : Tag) (start stop : Payload) (s : State) : Host.Outcome State Fault Refusal :=
  .next (s.takeRequest c tag (.setWindow start stop))

/-- SET CLOCK (R44). -/
def execSetClock (c : Client) (tag : Tag) (seconds : Payload) (s : State) : Host.Outcome State Fault Refusal :=
  .next (s.takeRequest c tag (.setClock seconds))

/-- HOME (R73). -/
def execHome (c : Client) (tag : Tag) (s : State) : Host.Outcome State Fault Refusal :=
  .next (s.takeRequest c tag .home)

/-- GET TRACE, of either source (R93, R155). -/
def execGetTrace (c : Client) (tag : Tag) (source port band first count : Payload) (s : State) :
    Host.Outcome State Fault Refusal :=
  .next (s.takeRequest c tag (.getTrace source port band first count))

/-- GET TRACE of source BASELINE (R155). -/
def execGetTraceBaseline (c : Client) (tag : Tag) (port band first count : Payload) (s : State) :
    Host.Outcome State Fault Refusal :=
  .next (s.takeRequest c tag (.getTrace 1#30 port band first count))

/-- GET FINDINGS (R138). -/
def execGetFindings (c : Client) (tag : Tag) (port first : Payload) (s : State) : Host.Outcome State Fault Refusal :=
  .next (s.takeRequest c tag (.getFindings port first))

/-- ACK FINDING (R139). -/
def execAckFinding (c : Client) (tag : Tag) (port entry : Payload) (s : State) : Host.Outcome State Fault Refusal :=
  .next (s.takeRequest c tag (.ackFinding port entry))

/-- DELETE FINDING (R140). -/
def execDeleteFinding (c : Client) (tag : Tag) (port entry : Payload) (s : State) : Host.Outcome State Fault Refusal :=
  .next (s.takeRequest c tag (.deleteFinding port entry))

/-- BASELINE INFO (R153). -/
def execBaselineInfo (c : Client) (tag : Tag) (port : Payload) (s : State) : Host.Outcome State Fault Refusal :=
  .next (s.takeRequest c tag (.baselineInfo port))

/-- ERASE BASELINE (R154). -/
def execEraseBaseline (c : Client) (tag : Tag) (port band : Payload) (s : State) : Host.Outcome State Fault Refusal :=
  .next (s.takeRequest c tag (.eraseBaseline port band))

/-- HOLD (R157, R158). -/
def execHold (c : Client) (tag : Tag) (s : State) : Host.Outcome State Fault Refusal :=
  .next (s.takeRequest c tag .hold)

/-- RESUME (R160, R161). -/
def execResume (c : Client) (tag : Tag) (s : State) : Host.Outcome State Fault Refusal :=
  .next (s.takeRequest c tag .resume)

/-- STATUS (R176). -/
def execStatus (c : Client) (tag : Tag) (s : State) : Host.Outcome State Fault Refusal :=
  .next (s.takeRequest c tag .status)

/-- LINK RESET (R177). -/
def execLinkReset (c : Client) (tag : Tag) (s : State) : Host.Outcome State Fault Refusal :=
  .next (s.takeRequest c tag .linkReset)

/-- MALFORMED: a message completes that R171 answers MALFORMED. -/
def execMalformed (c : Client) (ws : List Word) (s : State) : Host.Outcome State Fault Refusal :=
  .next (s.takeMessage c ws)

/-- OVERRUN: a message completes while a request is pending (R171 case 2). -/
def execOverrun (c : Client) (ws : List Word) (s : State) : Host.Outcome State Fault Refusal :=
  .next (s.takeMessage c ws)

end Sys2Proof.Machine
end

