-- ==== Sys2Proof/Machine/HighwayEvents.lean ====
section
/-! DEFINITION. The highway's events (chapter 11): inbound words, outbound slots, frame syncs, loss and return; and
power-on. -/

namespace Sys2Proof.Machine

/-! ### Inbound assembly (R170) -/

/-- The link with a partial message discarded, which sets FRAMING, and the buffer EMPTY (R170). -/
def Link.dropPartial (l : Link) : Link := l.completed true

/-- One inbound word taken by the link, and the message it completes, if any (R170). -/
def Link.takeWord (l : Link) (w : Word) : Link × Option (List Word) :=
  match wordType w, l.assembly with
  | .idle, _ => (l.dropPartial, none)
  | .header, _ =>
    if headerLength w = 1 then (l.dropPartial, some [w])
    else ({ l.dropPartial with assembly := .assembling [w] (headerLength w) }, none)
  | .data, .empty => ({ l with framing := true }, none)
  | .data, .assembling ws n =>
    if n ≤ ws.length + 1 then ({ l with assembly := .empty }, some (ws ++ [w]))
    else ({ l with assembly := .assembling (ws ++ [w]) n }, none)

/-- The event of an inbound word's last bit (R165, R170, R171). -/
def State.takeWord (s : State) (c : Client) (w : Word) : State :=
  if s.hw.frame = .aligned then
    let t := s.slotEnd
    let x := (t.link c).takeWord w
    match x.2 with
    | none => t.setLink c x.1
    | some ws => (t.setLink c x.1).deliverMessage c ws
  else s

/-- INBOUND_WORD (R170); a word that completes a message has that message taken (R171; log entry 4). -/
def execInboundWord (c : Client) (w : Word) (s : State) : Host.Outcome State Fault Refusal := .next (s.takeWord c w)

/-! ### Outbound slots (R172) -/

/-- The word chosen at the first bit of an outbound slot: the next response word, or the idle status word (R172). -/
def State.sendWord (s : State) (c : Client) : State :=
  let l := s.link c
  match l.response[l.sent]? with
  | some w =>
    let isLast := decide (l.sent + 1 = l.response.length)
    let t := s.setLink c { l with sent := l.sent + 1, pending := if isLast then none else l.pending }
    t.setHw { t.hw with
      tx := some { client := c, word := w, kind := .response (if isLast then l.pending else none) } }
  | none => s.setHw { s.hw with tx := some { client := c, word := s.idleWord c, kind := .idle } }

/-- The state with the frame's place replaced. -/
def State.setFrame (s : State) (f : FrameState) : State := s.setHw { s.hw with frame := f }

/-- OUTBOUND_SLOT (R172); no word is sent without a frame (R165), and after a resynchronisation the first slot to come
is slot 0 (R166). -/
def execOutboundSlot (c : Client) (s : State) : Host.Outcome State Fault Refusal :=
  .next (match s.hw.frame with
    | .aligned => s.slotEnd.sendWord c
    | .resynced => if c = 0 then (s.setFrame .aligned).slotEnd.sendWord c else s
    | .waiting => s
    | .lost => s)

/-! ### Frame syncs (R165, R166) -/

/-- The client whose slot a bit of the frame lies in (R165). -/
def bitClient (bit : Fin 128) : Client := ⟨bit.val / 32, by omega⟩

/-- The outbound word of client c's slot is cut off: a response word is not counted as sent, and the request it
answered is present again if it was the last; an idle status word is dropped (R166). -/
def Highway.cut (hw : Highway) (c : Client) : Highway :=
  match hw.tx with
  | none => hw
  | some t =>
    if t.client = c then
      match t.kind with
      | .idle => { hw with tx := none }
      | .response closes =>
        let l := hw.links.at c
        { hw with
          tx := none
          links := hw.links.put c
            { l with sent := l.sent - 1, pending := if closes.isSome then closes else l.pending } }
    else hw

/-- A frame sync inside slot c: the inbound bits are discarded, the outbound word is cut, FRAMING is set (R166). -/
def State.cutSlot (s : State) (c : Client) : State :=
  let t := s.setHw (s.hw.cut c)
  t.setLink c { t.link c with framing := true }

/-- A sync at a bit of the current frame: at bit 0 it confirms the frame; at another bit that bit becomes bit 0 of
slot 0, and inside a slot the slot's word is cut (R165, R166). -/
def State.resync (s : State) (bit : Fin 128) : State :=
  if bit.val = 0 then s
  else (if bit.val % 32 = 0 then s else s.cutSlot (bitClient bit)).setFrame .resynced

/-- FRAME_SYNC at a bit of the frame; a sync while the part waits for one starts frame alignment (R165, R166). -/
def execFrameSync (bit : Fin 128) (s : State) : Host.Outcome State Fault Refusal :=
  .next (match s.hw.frame with
    | .aligned => s.resync bit
    | .resynced => s.resync bit
    | .waiting => s.setFrame .aligned
    | .lost => s)

/-- FRAME_ALIGNMENT: the first frame sync after power-on or a highway loss (R165). -/
def execFrameAlignment (s : State) : Host.Outcome State Fault Refusal :=
  .next (match s.hw.frame with
    | .waiting => s.setFrame .aligned
    | .aligned => s
    | .resynced => s
    | .lost => s)

/-! ### Loss and return of the highway (R178) -/

/-- A link at a highway loss: all but STORE is cleared (R169, R178). -/
def Link.lost (l : Link) : Link := { Link.reset with store := l.store }

/-- HIGHWAY_LOSS: every link loses its words; a second loss changes nothing (R178). -/
def execHighwayLoss (s : State) : Host.Outcome State Fault Refusal :=
  .next (match s.hw.frame with
    | .lost => s
    | .waiting => s.setHw { frame := .lost, tx := none, links := s.hw.links.map Link.lost }
    | .aligned => s.setHw { frame := .lost, tx := none, links := s.hw.links.map Link.lost }
    | .resynced => s.setHw { frame := .lost, tx := none, links := s.hw.links.map Link.lost })

/-- HIGHWAY_RETURN: the loss ends and the part waits for a frame sync (R178). -/
def execHighwayReturn (s : State) : Host.Outcome State Fault Refusal :=
  .next (match s.hw.frame with
    | .lost => s.setHw { s.hw with frame := .waiting }
    | .waiting => s
    | .aligned => s
    | .resynced => s)

/-! ### Power-on (R74, R144) -/

/-- Every block at its power-on values, with the slots taken from the memory; commands that wait outside stay. -/
def State.powerOn (s : State) : State :=
  (State.reset.setStore { State.reset.store with
    slots := Tab.of (fun i => powerOnSlot i (s.store.slots.at i)) }).setPending s.pending

/-- POWER_ON (R74, and the power-on values of every chapter). -/
def execPowerOn (s : State) : Host.Outcome State Fault Refusal := .next s.powerOn

end Sys2Proof.Machine
end

