-- ==== Sys2Proof/Machine/Dispatch.lean ====
section
/-! DEFINITION. One arm per command, in the order of spec/opcode_table.json: the command's effect on everything
but the queue of waiting commands. -/

namespace Sys2Proof.Machine

/-- The meaning of every command. -/
def exec (i : Instr) (s : State) : Host.Outcome State Fault Refusal :=
  match i with
  | .powerOn => Sys2Proof.Machine.execPowerOn s
  | .claim c tag port => Sys2Proof.Machine.execClaim c tag port s
  | .release c tag port => Sys2Proof.Machine.execRelease c tag port s
  | .setProfile c tag port fields => Sys2Proof.Machine.execSetProfile c tag port fields s
  | .getProfile c tag port => Sys2Proof.Machine.execGetProfile c tag port s
  | .getResult c tag port => Sys2Proof.Machine.execGetResult c tag port s
  | .schedule c tag port kind band => Sys2Proof.Machine.execSchedule c tag port kind band s
  | .cancel c tag ticket => Sys2Proof.Machine.execCancel c tag ticket s
  | .listQueue c tag => Sys2Proof.Machine.execListQueue c tag s
  | .setWindow c tag start stop => Sys2Proof.Machine.execSetWindow c tag start stop s
  | .setClock c tag seconds => Sys2Proof.Machine.execSetClock c tag seconds s
  | .clockAdvance => Sys2Proof.Machine.execClockAdvance s
  | .home c tag => Sys2Proof.Machine.execHome c tag s
  | .getTrace c tag source port band first count => Sys2Proof.Machine.execGetTrace c tag source port band first count s
  | .getTraceBaseline c tag port band first count => Sys2Proof.Machine.execGetTraceBaseline c tag port band first count s
  | .getFindings c tag port first => Sys2Proof.Machine.execGetFindings c tag port first s
  | .ackFinding c tag port entry => Sys2Proof.Machine.execAckFinding c tag port entry s
  | .deleteFinding c tag port entry => Sys2Proof.Machine.execDeleteFinding c tag port entry s
  | .baselineInfo c tag port => Sys2Proof.Machine.execBaselineInfo c tag port s
  | .eraseBaseline c tag port band => Sys2Proof.Machine.execEraseBaseline c tag port band s
  | .hold c tag => Sys2Proof.Machine.execHold c tag s
  | .resume c tag => Sys2Proof.Machine.execResume c tag s
  | .status c tag => Sys2Proof.Machine.execStatus c tag s
  | .linkReset c tag => Sys2Proof.Machine.execLinkReset c tag s
  | .inboundWord c w => Sys2Proof.Machine.execInboundWord c w s
  | .malformed c ws => Sys2Proof.Machine.execMalformed c ws s
  | .overrun c ws => Sys2Proof.Machine.execOverrun c ws s
  | .outboundSlot c => Sys2Proof.Machine.execOutboundSlot c s
  | .frameSync bit => Sys2Proof.Machine.execFrameSync bit s
  | .highwayLoss => Sys2Proof.Machine.execHighwayLoss s
  | .losEdge p => Sys2Proof.Machine.execLosEdge p s
  | .encoderCount e => Sys2Proof.Machine.execEncoderCount e s
  | .encoderError => Sys2Proof.Machine.execEncoderError s
  | .indexEdge => Sys2Proof.Machine.execIndexEdge s
  | .moveTimeout => Sys2Proof.Machine.execMoveTimeout s
  | .settleExpiry => Sys2Proof.Machine.execSettleExpiry s
  | .homingTimeout => Sys2Proof.Machine.execHomingTimeout s
  | .shot x => Sys2Proof.Machine.execShot x s
  | .darkBlockBoundary x => Sys2Proof.Machine.execDarkBlockBoundary x s
  | .laserBlockBoundary x => Sys2Proof.Machine.execLaserBlockBoundary x s
  | .drainedBlockBoundary x => Sys2Proof.Machine.execDrainedBlockBoundary x s
  | .analysisEnd => Sys2Proof.Machine.execAnalysisEnd s
  | .programmingEnd r => Sys2Proof.Machine.execProgrammingEnd r s
  | .holdTimerExpiry => Sys2Proof.Machine.execHoldTimerExpiry s
  | .highwayReturn => Sys2Proof.Machine.execHighwayReturn s
  | .frameAlignment => Sys2Proof.Machine.execFrameAlignment s

end Sys2Proof.Machine
end

