-- ==== Sys2Proof/Machine/Step.lean ====
section
/-! DEFINITION. One step: the command at the front of the queue is taken (log entry 1 for the empty queue). -/

namespace Sys2Proof.Machine

/-- One step: the front command runs on the state whose queue is the rest. On an empty queue the block idles: no
time passes in the model but by the event commands (DESIGN CHOICE, log entry 1). -/
def step (s : State) : Host.Outcome State Fault Refusal :=
  match s.pending with
  | [] => .next s
  | i :: rest => exec i (s.setPending rest)

/-- The state with the command a word spells put at the front of its queue. No row of the command table has bits, so
no word spells one and the state stays as it is (log entry 19). -/
def State.withFetchWord (s : State) (nbits w : Nat) : State :=
  match Sys2Proof.decodeTableWord nbits w with
  | some i => s.setPending (i :: s.pending)
  | none => s

end Sys2Proof.Machine
end

