-- ==== Sys2Proof/WellFormed.lean ====
section
/-! DEFINITION. Which commands can be sent at all, checked on the command alone: the words of a completed
message form one message, and a shot's sample list names points a trace can have. What depends on the
machine's state is no matter of well-formedness: exec answers it. -/

namespace Sys2Proof

/-- The words of one completed message: a HEADER word whose length field is the number of words, then DATA
words only (R167, R170). -/
def messageWellFormed : List Word → Bool
  | [] => false
  | h :: rest =>
    decide (wordType h = .header) && decide (headerLength h = rest.length + 1)
      && rest.all (fun w => decide (wordType w = .data))

/-- A shot's listed samples lie at points a trace can have (R9, R79). -/
def Samples.wellFormed (x : Samples) : Bool := x.listed.all (fun e => decide (e.1 < Config.maxPoints))

/-- The check on a command alone. -/
def Instr.wellFormed : Instr → Bool
  | .powerOn => true
  | .claim _ _ _ => true
  | .release _ _ _ => true
  | .setProfile _ _ _ _ => true
  | .getProfile _ _ _ => true
  | .getResult _ _ _ => true
  | .schedule _ _ _ _ _ => true
  | .cancel _ _ _ => true
  | .listQueue _ _ => true
  | .setWindow _ _ _ _ => true
  | .setClock _ _ _ => true
  | .clockAdvance => true
  | .home _ _ => true
  | .getTrace _ _ _ _ _ _ _ => true
  | .getTraceBaseline _ _ _ _ _ _ => true
  | .getFindings _ _ _ _ => true
  | .ackFinding _ _ _ _ => true
  | .deleteFinding _ _ _ _ => true
  | .baselineInfo _ _ _ => true
  | .eraseBaseline _ _ _ _ => true
  | .hold _ _ => true
  | .resume _ _ => true
  | .status _ _ => true
  | .linkReset _ _ => true
  | .inboundWord _ _ => true
  | .malformed _ ws => messageWellFormed ws && (decodeMessage ws).isNone
  | .overrun _ ws => messageWellFormed ws && decide (decodeMessage ws ≠ some .linkReset)
  | .outboundSlot _ => true
  | .frameSync _ => true
  | .highwayLoss => true
  | .losEdge _ => true
  | .encoderCount _ => true
  | .encoderError => true
  | .indexEdge => true
  | .moveTimeout => true
  | .settleExpiry => true
  | .homingTimeout => true
  | .shot x => x.wellFormed
  | .darkBlockBoundary x => x.wellFormed
  | .laserBlockBoundary x => x.wellFormed
  | .drainedBlockBoundary x => x.wellFormed
  | .analysisEnd => true
  | .programmingEnd _ => true
  | .holdTimerExpiry => true
  | .highwayReturn => true
  | .frameAlignment => true

end Sys2Proof
end

