-- ==== Sys2Proof/Safety.lean ====
section
/-! DEFINITION. The terms the statements are written in: requests as commands, a client whose request is taken, what
its link holds once it is answered, a message sent word by word, and the invariants of the block. -/

namespace Sys2Proof

/-! ### Requests as commands -/

/-- The command that is client c's request with a tag. -/
def Request.command (r : Request) (c : Client) (tag : Tag) : Instr :=
  match r with
  | .claim port => .claim c tag port
  | .release port => .release c tag port
  | .setProfile port fields => .setProfile c tag port fields
  | .getProfile port => .getProfile c tag port
  | .getResult port => .getResult c tag port
  | .schedule port kind band => .schedule c tag port kind band
  | .cancel ticket => .cancel c tag ticket
  | .listQueue => .listQueue c tag
  | .setWindow start stop => .setWindow c tag start stop
  | .setClock seconds => .setClock c tag seconds
  | .home => .home c tag
  | .getTrace source port band first count => .getTrace c tag source port band first count
  | .getFindings port first => .getFindings c tag port first
  | .ackFinding port entry => .ackFinding c tag port entry
  | .deleteFinding port entry => .deleteFinding c tag port entry
  | .baselineInfo port => .baselineInfo c tag port
  | .eraseBaseline port band => .eraseBaseline c tag port band
  | .hold => .hold c tag
  | .resume => .resume c tag
  | .status => .status c tag
  | .linkReset => .linkReset c tag

/-- The request a command is, if it is one. -/
def Instr.request : Instr → Option Request
  | .claim _ _ port => some (.claim port)
  | .release _ _ port => some (.release port)
  | .setProfile _ _ port fields => some (.setProfile port fields)
  | .getProfile _ _ port => some (.getProfile port)
  | .getResult _ _ port => some (.getResult port)
  | .schedule _ _ port kind band => some (.schedule port kind band)
  | .cancel _ _ ticket => some (.cancel ticket)
  | .listQueue _ _ => some .listQueue
  | .setWindow _ _ start stop => some (.setWindow start stop)
  | .setClock _ _ seconds => some (.setClock seconds)
  | .home _ _ => some .home
  | .getTrace _ _ source port band first count => some (.getTrace source port band first count)
  | .getTraceBaseline _ _ port band first count => some (.getTrace 1#30 port band first count)
  | .getFindings _ _ port first => some (.getFindings port first)
  | .ackFinding _ _ port entry => some (.ackFinding port entry)
  | .deleteFinding _ _ port entry => some (.deleteFinding port entry)
  | .baselineInfo _ _ port => some (.baselineInfo port)
  | .eraseBaseline _ _ port band => some (.eraseBaseline port band)
  | .hold _ _ => some .hold
  | .resume _ _ => some .resume
  | .status _ _ => some .status
  | .linkReset _ _ => some .linkReset
  | .powerOn => none
  | .clockAdvance => none
  | .inboundWord _ _ => none
  | .malformed _ _ => none
  | .overrun _ _ => none
  | .outboundSlot _ => none
  | .frameSync _ => none
  | .highwayLoss => none
  | .losEdge _ => none
  | .encoderCount _ => none
  | .encoderError => none
  | .indexEdge => none
  | .moveTimeout => none
  | .settleExpiry => none
  | .homingTimeout => none
  | .shot _ => none
  | .darkBlockBoundary _ => none
  | .laserBlockBoundary _ => none
  | .drainedBlockBoundary _ => none
  | .analysisEnd => none
  | .programmingEnd _ => none
  | .holdTimerExpiry => none
  | .highwayReturn => none
  | .frameAlignment => none

/-- The port parameter of a request that names a port (11.6). -/
def Request.namedPort : Request → Option Payload
  | .claim port => some port
  | .release port => some port
  | .setProfile port _ => some port
  | .getProfile port => some port
  | .getResult port => some port
  | .schedule port _ _ => some port
  | .getTrace _ port _ _ _ => some port
  | .getFindings port _ => some port
  | .ackFinding port _ => some port
  | .deleteFinding port _ => some port
  | .baselineInfo port => some port
  | .eraseBaseline port _ => some port
  | .cancel _ => none
  | .listQueue => none
  | .setWindow _ _ => none
  | .setClock _ => none
  | .home => none
  | .hold => none
  | .resume => none
  | .status => none
  | .linkReset => none

end Sys2Proof

namespace Sys2Proof.Machine

/-- A client's words arrive one by one, each at the end of its inbound slot. -/
def feed (c : Client) : List Word → State → Host.Outcome State Fault Refusal
  | [], s => .next s
  | w :: ws, s =>
    match exec (.inboundWord c w) s with
    | .next t => feed c ws t
    | .fault f => .fault f
    | .refused f => .refused f

/-! ### Taking a request -/

/-- The next complete message of client c is taken as a request: the frame is aligned (R165) and no request of c is
pending (R171). -/
def State.takes (s : State) (c : Client) : Prop := s.hw.frame = .aligned ∧ (s.link c).pending = none

/-- The highway once client c's message has been taken and answered with `x`: c's link holds the pending request and
the response, no word of it sent, its assembly buffer EMPTY; a one-word message that cuts short a partial one sets
FRAMING; the other links are as the slot's end leaves them (R169, R170, R171). `flags` is c's link as the request's own
effect leaves its latched flags. -/
def Answered (s t : State) (c : Client) (flags : Link) (code : Nat) (tag : Tag) (x : Response) : Prop :=
  t.hw.frame = s.hw.frame ∧ t.hw.tx = none ∧ (∀ d, d ≠ c → t.link d = s.slotEnd.link d) ∧
    t.link c = { assembly := .empty, pending := some { code := code, tag := tag }, response := x.words code tag,
                 sent := 0, overrun := flags.overrun, framing := flags.framing, store := flags.store }

/-- Client c's link as a message of one word, or of more, leaves it (R170, R171). -/
def State.linkAfter (s : State) (c : Client) (single : Bool) : Link := (s.slotEnd.link c).completed single

/-! ### The analysis in the words of chapter 7 -/

/-- The excess rv(i) = L(i) − B(i) of a band (R113). -/
def BandInput.rv (x : BandInput) (i : Nat) : Int :=
  (pointAt x.live.points i).level - (pointAt x.base.levels i).level

/-- The scan limit of a band: min(E_live, E_b), and not beyond the test's break (R112). -/
def BandInput.limitBefore (x : BandInput) (brk : Option BreakAt) : Nat :=
  match brk with
  | some k => min (min x.live.endIndex x.base.endIndex) k.location
  | none => min x.live.endIndex x.base.endIndex

/-- Point i of a band lies in its reflection range and is reflective (R113). -/
def BandInput.isReflective (x : BandInput) (sn : Snapshot) (i : Nat) : Prop :=
  sn.i0 ≤ i ∧ i < sn.points ∧ i ≤ min x.live.endIndex x.base.endIndex + 7 ∧
    (sn.reflectionThreshold : Int) ≤ x.rv i

/-- Point i of a band is masked (R115). -/
def BandInput.isMasked (x : BandInput) (sn : Snapshot) (i : Nat) : Prop :=
  x.isReflective sn i ∨ (pointAt x.live.points i).clip = true ∨ (pointAt x.base.levels i).clip = true

/-- The runs of a band are its maximal stretches of reflective points, in rising order, each with the largest excess
over its points as height, and saturated exactly when one of them is clipped in the live trace (R113). -/
def BandInput.RunsAreMaximalStretches (x : BandInput) (sn : Snapshot) : Prop :=
  (∀ r ∈ x.runs sn, ∃ a n, 1 ≤ n ∧ r.points = List.range' a n ∧ r.start = a ∧
    (∀ i ∈ r.points, x.isReflective sn i) ∧ ¬ x.isReflective sn (a + n) ∧ (∀ j, j + 1 = a → ¬ x.isReflective sn j) ∧
    (∃ i ∈ r.points, r.height = x.rv i) ∧ (∀ i ∈ r.points, x.rv i ≤ r.height) ∧
    (r.saturated = true ↔ ∃ i ∈ r.points, (pointAt x.live.points i).clip = true)) ∧
  (∀ i, x.isReflective sn i → ∃ r ∈ x.runs sn, i ∈ r.points) ∧
  (x.runs sn).Pairwise (fun r q => ∀ i ∈ r.points, ∀ j ∈ q.points, i < j)

/-- The band break: none when E_b is at most E_live + 8; otherwise at the first run that begins from
max(i0, E_live − 8) to E_live − 1, which is its own run, or at E_live without one (R111). -/
def BandInput.BreakLiesAtRunOrLiveEnd (x : BandInput) (sn : Snapshot) : Prop :=
  (x.bandBreak sn = none ↔ x.base.endIndex ≤ x.live.endIndex + 8) ∧
  ∀ (k : BreakAt) (near : ReflRun → Prop), x.bandBreak sn = some k →
    (∀ r, near r ↔ r ∈ x.runs sn ∧ max sn.i0 (x.live.endIndex - 8) ≤ r.start ∧ r.start < x.live.endIndex) →
    (∀ r, near r → (∀ q, near q → r.start ≤ q.start) → k = { location := r.start, run := some r }) ∧
    ((∀ r, ¬ near r) → k = { location := x.live.endIndex, run := none })

/-- The smoothed deficit: the floor of the mean of W deficits B(i) − L(i), a masked point holding the deficit before it
and 0 at i0, where all W lie in the range up to the scan limit; undefined elsewhere (R115, R116). -/
def BandInput.SmoothedDeficitIsHeldMean (x : BandInput) (sn : Snapshot) (brk : Option BreakAt) : Prop :=
  ∀ dv : Nat → Int,
    (∀ i, sn.i0 ≤ i → (¬ x.isMasked sn i → dv i = -(x.rv i)) ∧
      (x.isMasked sn i → dv i = if i = sn.i0 then 0 else dv (i - 1))) →
    ∀ i, x.smoothedAt sn brk i =
      (if sn.i0 ≤ i ∧ i + sn.smoothing ≤ x.limitBefore brk then
        some (((List.range sn.smoothing).map (fun j => dv (i + j))).sum / (sn.smoothing : Int)) else none)

/-- The scan from position `o` with a reference, `n` reaching to the last defined index: without an onset no step; at
the first onset a one step with its loss point, loss and location, and the scan goes on from a + C with the new
reference (R117). -/
def ScanTakesTheFirstOnset (sn : Snapshot) : Prop :=
  ∀ (ds : Nat → Option Int) (n o : Nat) (ref : Int) (onset : Nat → Prop), (∀ i, o + n ≤ i → ds i = none) →
    (∀ a, onset a ↔ o ≤ a ∧
      ∀ j, j < sn.confirmLength → ∃ v, ds (a + j) = some v ∧ (sn.stepThreshold : Int) ≤ v - ref) →
    ((∀ a, ¬ onset a) → stepScan ds sn n o ref = []) ∧
    ∀ a v, onset a → (∀ b, onset b → a ≤ b) → ds (a + sn.confirmLength - 1) = some v →
      ∃ m, (∀ i, a + sn.confirmLength + m ≤ i → ds i = none) ∧ stepScan ds sn n o ref =
        { location := a + (sn.smoothing - 1) / 2, lossPoint := a + sn.confirmLength - 1, loss := v - ref } ::
          stepScan ds sn m (a + sn.confirmLength) v

/-- The steps of a band: none where dv_s(i0) is undefined, otherwise those of the scan from i0 with it as reference
(R117). -/
def BandInput.StepsAreScannedFromI0 (x : BandInput) (sn : Snapshot) (brk : Option BreakAt) : Prop :=
  (x.smoothedAt sn brk sn.i0 = none → x.steps sn brk = []) ∧
  ∀ ref, x.smoothedAt sn brk sn.i0 = some ref →
    ∃ n, (∀ i, sn.i0 + n ≤ i → x.smoothedAt sn brk i = none) ∧
      x.steps sn brk = stepScan (x.smoothedAt sn brk) sn n sn.i0 ref

/-- A run is kept from the report by the test's break: it begins at or beyond it, or shares an index with its own run
(R114; log entry 34). -/
def ReflRun.isHidden (q : ReflRun) (brk : Option BreakAt) : Prop :=
  ∃ k, brk = some k ∧ (k.location ≤ q.start ∨ ∃ own, k.run = some own ∧ ∃ i ∈ q.points, i ∈ own.points)

/-- g stands before h in the findings list: a BREAK before all others, a nearer finding before a farther one, and at one
location a REFLECTION before a STEP or BEND (R121). No finding stands before itself. -/
def Finding.precedes (g h : Finding) : Prop :=
  h.kind ≠ .brk ∧ (g.kind = .brk ∨ g.location < h.location ∨
    (g.location = h.location ∧ g.kind = .reflection ∧ h.kind ≠ .reflection))

/-- The STEP or BEND finding of a step on the primary band: kind and bands evaluated by the primary band and by band A's
reading at the loss point (R118, R119, R121). -/
def IsStepFinding (sn : Snapshot) (x : PerBand (Option BandInput)) (primary : Band) (brk : Option BreakAt)
    (st : ScanStep) (g : Finding) : Prop :=
  ∃ kind bands, g = { kind := kind, location := st.location, distance := distance sn.spacing st.location,
                      lossPoint := some st.lossPoint, loss := some (mdB st.loss), height := none, saturated := none,
                      bands := some bands } ∧
    (primary = .A → kind = .step ∧ bands = .aOnly) ∧
    (primary = .B →
      (∀ y ref v, x.a = some y → y.smoothedAt sn brk sn.i0 = some ref → y.smoothedAt sn brk st.lossPoint = some v →
        kind = (if (sn.bendMargin : Int) ≤ mdB st.loss - mdB (v - ref) then .bend else .step) ∧ bands = .both) ∧
      ((∀ y, x.a = some y → y.smoothedAt sn brk sn.i0 = none ∨ y.smoothedAt sn brk st.lossPoint = none) →
        kind = .step ∧ bands = .bOnly))

/-! ### Invariants -/

/-- A laser is triggered only in ACQUIRE, in a laser block of its own band, with the selector SETTLED (R85). -/
def LaserInv (s : State) : Prop :=
  ∀ b, s.eng.trigger = some b →
    s.eng.state = .acquire ∧ s.eng.kind = .laser ∧ s.eng.band = some b ∧ s.sel.state = .settled

/-- The queue holds at most 32 entries with distinct tickets from 1 to 65535, at most one of them RUNNING, and none
while the engine is IDLE (R19, R21). -/
def QueueInv (s : State) : Prop :=
  s.queue.entries.length ≤ Config.queueCapacity ∧ (s.queue.entries.map (fun e => e.ticket)).Nodup ∧
    (∀ e ∈ s.queue.entries, 1 ≤ e.ticket ∧ e.ticket ≤ Config.lastTicketValue) ∧
    (∀ e ∈ s.queue.entries, ∀ f ∈ s.queue.entries, e.run.isSome = true → f.run.isSome = true → e = f) ∧
    (s.eng.state = .idle → ∀ e ∈ s.queue.entries, e.run = none)

/-- The entries that wait: a port has at most one QUEUED entry of a kind, and no QUEUED ROUTINE beside a QUEUED URGENT
(R23); a client has at most 12 QUEUED entries of origin REQUEST (R24); a latch is set only while an URGENT test of its
port is RUNNING or the queue is full (R39). -/
def WaitingInv (s : State) : Prop :=
  (∀ e ∈ s.queue.entries, ∀ f ∈ s.queue.entries, e.run = none → f.run = none → e.port = f.port →
    (e.kind = f.kind → e = f) ∧ ¬ (e.kind = .routine ∧ f.kind = .urgent)) ∧
    (∀ c, (s.queue.entries.filter (fun e =>
      e.run.isNone && decide (e.client = c) && decide (e.origin = .request))).length ≤ Config.shareLimit) ∧
    (∀ p, s.queue.latches.at p = true →
      (∃ e ∈ s.queue.entries, e.run.isSome = true ∧ e.port = p ∧ e.kind = .urgent) ∨
        s.queue.entries.length = Config.queueCapacity)

/-- No choice waits to be taken: the engine IDLE, the hold set empty, the selector not in FAULT and an eligible entry
never stand together (R30). -/
def ChoiceInv (s : State) : Prop := s.mayChoose = true → ∀ e ∈ s.queue.entries, s.eligible e = false

/-- Queue entries, fault entries, set flags and set latches belong to claimed ports, and a queue entry's client is its
port's claimant (R2). -/
def TenancyInv (s : State) : Prop :=
  (∀ e ∈ s.queue.entries, (s.port e.port).claimant = some e.client) ∧
    (∀ f ∈ s.faults, (s.port f.port).claimant.isSome = true) ∧
    (∀ p, (s.port p).unread = true ∨ (s.port p).unseen = true ∨ s.queue.latches.at p = true →
      (s.port p).claimant.isSome = true)

/-- The fault table holds at most 64 entries with distinct ids below 64; an entry that is not CLEARED has fewer misses
than its kind's miss limit, and none has more than 3 (R126, R127, R133). -/
def FaultsInv (s : State) : Prop :=
  s.faults.length ≤ Config.faultCapacity ∧ (s.faults.map (fun e => e.id)).Nodup ∧
    (∀ e ∈ s.faults, e.id < Config.faultCapacity) ∧
    (∀ e ∈ s.faults, e.misses ≤ 3 ∧ (e.state ≠ .cleared → e.misses < missLimit e.det.kind))

/-- The clock and the windows lie in their ranges (R43, R46). -/
def OfficeInv (s : State) : Prop :=
  (∀ v, s.office.clock = some v → v < Config.secondsPerDay) ∧
    (∀ c, (s.office.windows.at c).start < Config.minutesPerDay ∧ (s.office.windows.at c).stop < Config.minutesPerDay)

/-- Every port's profile is legal (R9). -/
def ProfilesInv (s : State) : Prop := ∀ p, (s.port p).profile.legal = true

/-- The commit queue: exactly its head is WRITING, no slot has two QUEUED entries, the head's slot is EMPTY in the
memory, and every WRITE holds a held buffer of its own (R145, R146, R149). -/
def StoreInv (s : State) : Prop :=
  (∀ e rest, s.store.commits = e :: rest →
    e.writing = true ∧ (∀ f ∈ rest, f.writing = false) ∧ s.store.slots.at e.slot = none ∧
      (rest.map (fun f => f.slot)).Nodup) ∧
    (∀ e ∈ s.store.commits, ∀ i, e.op = .write i → ∃ x, s.store.buffers.at i = .held x) ∧
    (s.store.commits.filterMap (fun e => match e.op with | .write i => some i | .erase => none)).Nodup

/-- Entries and a reserved buffer never fill more than four places, one buffer at most is reserved, and none is while
the engine holds no test (R145, R146). -/
def OccupancyInv (s : State) : Prop :=
  s.store.occupancy ≤ Config.commitCapacity ∧
    (∀ i j, s.store.buffers.at i = .reserved → s.store.buffers.at j = .reserved → i = j) ∧
    (s.eng.state = .idle ∨ (s.eng.state = .held ∧ s.queue.running = none) →
      ∀ i, s.store.buffers.at i ≠ .reserved)

/-- The engine is HELD or DRAINING only while the hold set is not empty (R158, R159, R160). -/
def HoldInv (s : State) : Prop :=
  s.eng.state = .held ∨ s.eng.state = .draining → ∃ c, s.hold.members.at c = true

/-- In POSITION the selector is on its way to the running test's port; while a block is shot it is SETTLED there
(R59, R72, R85). -/
def LightInv (s : State) : Prop :=
  (s.eng.state = .position → ∀ e, s.queue.running = some e →
    ((s.sel.state = .moving ∨ s.sel.state = .settling) ∧ s.sel.target = some e.port) ∨
      (s.sel.state = .homing ∧ s.sel.pendingTarget = some e.port)) ∧
    (s.eng.state.shooting = true →
      s.sel.state = .settled ∧ ∀ e, s.queue.running = some e → s.sel.target = some e.port)

end Sys2Proof.Machine
end

