-- ==== Sys2Proof/Certificates/Slice0/Obligations.lean ====
section
/-! DEFINITION. The statements for the provers. Each docstring names the rules it formalises. A log entry number names
a row of notes/assumptions. A statement about a request gives the response and the state after it as a change of the
state before it, so that whatever the change does not name is unchanged; the highway's own part is what `Answered`
says. -/

open Sys2Proof
open Sys2Proof.Machine

/-! ### Steps, reset and power-on -/

/-- A step takes the command at the front of the queue and runs it with the queue's rest; on an empty queue the block
idles (the model's choice, log entry 1). -/
def Obligations.StepRunsTheFrontCommand : Prop :=
  (∀ (s : State) (i : Instr) (rest : List Instr), s.pending = i :: rest → step s = exec i (s.setPending rest)) ∧
    (∀ s : State, s.pending = [] → step s = .next s)

/-- No command stops, and none touches the commands that wait (the manual describes no condition that stops the part;
power-on keeps the outside queue, log entry 31). -/
def Obligations.EveryCommandCompletesAndKeepsTheQueue : Prop :=
  ∀ (i : Instr) (s : State), ∃ t, exec i s = .next t ∧ t.pending = s.pending

/-- The values after reset that the manual gives: ports unclaimed with default profiles and no result (R1), an empty
queue with the pointer at client 0 and no latch (R20), the clock UNSET (R43) and every window 120 to 300 (R46), the
selector at count 0 and HOMING with no pending target (R55, R74), the engine IDLE with nothing in it: no block sums,
accumulators, clip flags, traces or baseline views (R75, R92, R108), the fault table empty (R126), the commit queue
empty and the buffers free (R145, R146), no hold (R156), every link empty and no frame yet (R165, R169). The model's
choices beside them: every slot EMPTY (log entry 13), and the model's own fields for a shot, a move, a programming, a
resume point and a word in progress, of which there is none (log entry 39). -/
def Obligations.ResetHoldsThePowerOnValues : Prop :=
  (∀ p, State.reset.port p =
      { claimant := none, profile := Profile.default, result := none, unread := false, unseen := false }) ∧
    State.reset.queue.entries = [] ∧ State.reset.queue.lastTicket = none ∧ State.reset.queue.nextTicket = 1 ∧
    State.reset.queue.pointer = 0 ∧ (∀ p, State.reset.queue.latches.at p = false) ∧
    State.reset.office.clock = none ∧ (∀ c, State.reset.office.windows.at c = { start := 120, stop := 300 }) ∧
    State.reset.sel.count = 0 ∧ State.reset.sel.dir = .forward ∧ State.reset.sel.state = .homing ∧
    State.reset.sel.target = none ∧ State.reset.sel.pendingTarget = none ∧ State.reset.sel.changes = 0 ∧
    State.reset.sel.moveTimer = none ∧ State.reset.sel.settleTimer = none ∧
    State.reset.sel.homingTimer = some 6000000000 ∧ State.reset.sel.failures = 0 ∧
    State.reset.eng.state = .idle ∧ State.reset.eng.hand = .none ∧ State.reset.eng.snap = none ∧
    State.reset.eng.band = none ∧ State.reset.eng.kind = .dark ∧ State.reset.eng.counter = 0 ∧
    State.reset.eng.blocksDone = 0 ∧ State.reset.eng.darkTotal = 0 ∧ State.reset.eng.darks = ⟨none, none⟩ ∧
    State.reset.eng.traces = ⟨none, none⟩ ∧ State.reset.eng.lastPair = none ∧ State.reset.eng.sums = [] ∧
    State.reset.eng.accs = [] ∧ State.reset.eng.clips = [] ∧ State.reset.eng.views = ⟨none, none⟩ ∧
    State.reset.eng.resume = none ∧ State.reset.eng.sampling = false ∧ State.reset.sel.fresh = false ∧
    State.reset.eng.analysisTimer = none ∧ State.reset.eng.trigger = none ∧
    State.reset.faults = [] ∧ State.reset.store.commits = [] ∧ State.reset.store.programming = none ∧
    (∀ i, State.reset.store.slots.at i = none) ∧ State.reset.hw.tx = none ∧
    (∀ i, State.reset.store.buffers.at i = .free) ∧ (∀ c, State.reset.hold.members.at c = false) ∧
    State.reset.hold.timer = none ∧ State.reset.hold.mark = false ∧
    State.reset.hw.frame = .waiting ∧ (∀ c, State.reset.link c =
      { assembly := .empty, pending := none, response := [], sent := 0, overrun := false, framing := false,
        store := false }) ∧ State.reset.pending = []

/-- POWER_ON: every block at its power-on values; a slot is VALID exactly when the memory holds a header that is
complete for it, and then with the stored levels; every other slot reads as EMPTY (R144). The commands that wait stay
(log entry 31). -/
def Obligations.PowerOnReinitialisesEveryBlock : Prop :=
  ∀ s : State, ∃ t, exec .powerOn s = .next t ∧
    (∀ (i : Fin 64) (x : Capture), t.store.slots.at i = some x ↔
      s.store.slots.at i = some x ∧ x.port.val = i.val / 2 ∧ (x.band = .A ↔ i.val % 2 = 0) ∧
        (x.points = 1024 ∨ x.points = 2048 ∨ x.points = 4096 ∨ x.points = 8192 ∨ x.points = 16384) ∧ x.period ≤ 5 ∧
        x.pulse ≤ 6 ∧ 8 ≤ x.averages ∧ x.averages ≤ 16 ∧ 140000 ≤ x.groupIndex ∧ x.groupIndex ≤ 160000 ∧
        x.endIndex ≤ x.points ∧ x.dark ≤ 4095) ∧
    t = (State.reset.setStore { State.reset.store with slots := t.store.slots }).setPending s.pending

/-! ### The highway (chapter 11) -/

/-- Every request is read back from the words it is sent in: code, parameters and tag, with every parameter at every
value a payload admits; the words are one message of the listed length (R167, 11.6). A message of any other code or
length is no request (11.6, R171 case 3). -/
def Obligations.RequestWordsDecode : Prop :=
  (∀ (r : Request) (tag : Tag), decodeMessage (r.words tag) = some r ∧ messageWellFormed (r.words tag) = true ∧
    ∃ h rest, r.words tag = h :: rest ∧ headerTag h = tag ∧ headerLength h = r.length ∧ headerCode h = r.code) ∧
  ∀ (h : Word) (rest : List Word), messageWellFormed (h :: rest) = true →
    (decodeMessage (h :: rest) = none ↔ (headerCode h, headerLength h) ∉
      [(1, 2), (2, 2), (3, 16), (4, 2), (5, 2), (6, 4), (7, 2), (8, 1), (9, 3), (10, 2), (11, 1), (12, 6), (13, 3),
       (14, 3), (15, 3), (16, 2), (17, 3), (18, 1), (19, 1), (20, 1), (21, 1)])

/-- A request sent word by word into an EMPTY assembly buffer, each word taken at the end of its slot, does exactly
what the request's command does: the message completes at its last word and is taken at that event (R170, R171; that a
request's command is the completion of its message is log entry 4). -/
def Obligations.WordByWordEqualsTheRequest : Prop :=
  ∀ (r : Request) (tag : Tag) (c : Client) (s : State), s.hw.frame = .aligned → (s.link c).assembly = .empty →
    feed c (r.words tag) s = exec (r.command c tag) s

/-- INBOUND_WORD, by the word's type, its bits 31 and 30: 01 HEADER, 10 DATA, and inbound 00 or 11 IDLE (R167), and the
assembly buffer (R170). `u` is the state at the slot's end, where an
outbound word in progress has gone (R172). A message that completes is taken (R171). Only client c's link changes
unless a message completes. -/
def Obligations.InboundWordAssembly : Prop :=
  (∀ w, (wordType w = .header ↔ w.extractLsb' 30 2 = 1#2) ∧ (wordType w = .data ↔ w.extractLsb' 30 2 = 2#2) ∧
    (wordType w = .idle ↔ w.extractLsb' 30 2 = 0#2 ∨ w.extractLsb' 30 2 = 3#2)) ∧
  ∀ (s u : State) (c : Client) (w : Word) (l : Link), s.hw.frame = .aligned → u = s.slotEnd → l = u.link c →
    (wordType w = .idle → exec (.inboundWord c w) s =
      .next (u.setLink c { l with assembly := .empty, framing := l.framing || l.assembly.isAssembling })) ∧
    (wordType w = .header → 2 ≤ headerLength w → exec (.inboundWord c w) s =
      .next (u.setLink c { l with
        assembly := .assembling [w] (headerLength w), framing := l.framing || l.assembly.isAssembling })) ∧
    (wordType w = .header → headerLength w = 1 → exec (.inboundWord c w) s =
      .next ((u.setLink c { l with
        assembly := .empty, framing := l.framing || l.assembly.isAssembling }).deliverMessage c [w])) ∧
    (wordType w = .data → l.assembly = .empty → exec (.inboundWord c w) s =
      .next (u.setLink c { l with framing := true })) ∧
    (∀ ws n, wordType w = .data → l.assembly = .assembling ws n → ws.length + 1 < n → exec (.inboundWord c w) s =
      .next (u.setLink c { l with assembly := .assembling (ws ++ [w]) n })) ∧
    (∀ ws n, wordType w = .data → l.assembly = .assembling ws n → ws.length + 1 = n → exec (.inboundWord c w) s =
      .next ((u.setLink c { l with assembly := .empty }).deliverMessage c (ws ++ [w])))

/-- MALFORMED: with no request pending, a message whose code or length 11.6 does not list is answered MALFORMED with
no effect on any block; its code and tag are echoed as received (R167, R171 case 3). -/
def Obligations.MalformedMessageIsAnswered : Prop :=
  ∀ (s : State) (c : Client) (h : Word) (rest : List Word), s.takes c → messageWellFormed (h :: rest) = true →
    decodeMessage (h :: rest) = none → ∃ t, exec (.malformed c (h :: rest)) s = .next t ∧
      Answered s t c (s.linkAfter c (decide (rest = []))) (headerCode h) (headerTag h) (.plain .malformed) ∧
      t = s.setHw t.hw

/-- OVERRUN: a message that completes while a request is pending, and is not a LINK RESET, is discarded whole: OVERRUN
is set, the pending request and its response go on, and nothing else changes (R171 case 2). The same for every
request's command and for a message that would be MALFORMED. -/
def Obligations.MessageWhilePendingIsDiscarded : Prop :=
  ∀ (s : State) (c : Client), s.hw.frame = .aligned → (s.link c).pending.isSome = true →
    (∀ ws, messageWellFormed ws = true → decodeMessage ws ≠ some .linkReset → ∃ t,
      exec (.overrun c ws) s = .next t ∧ exec (.malformed c ws) s = .next t ∧ t = s.setHw t.hw ∧
      t.hw.frame = .aligned ∧ t.hw.tx = none ∧ (∀ d, d ≠ c → t.link d = s.slotEnd.link d) ∧
      t.link c = { s.linkAfter c (decide (ws.length = 1)) with overrun := true } ∧
      (t.link c).pending = (s.link c).pending) ∧
    (∀ (r : Request) (tag : Tag), r ≠ .linkReset → ∃ t,
      exec (r.command c tag) s = .next t ∧ t = s.setHw t.hw ∧
      t.hw.frame = .aligned ∧ t.hw.tx = none ∧ (∀ d, d ≠ c → t.link d = s.slotEnd.link d) ∧
      t.link c = { s.linkAfter c (decide (r.length = 1)) with overrun := true } ∧
      (t.link c).pending = (s.link c).pending)

/-- Without a frame no inbound word is taken and no outbound word is sent: every request and every highway slot changes
nothing (R165). The same from a resynchronisation until the first bit of slot 0, which is the next slot to come (R166;
that the model holds the place in the frame so is log entry 33). -/
def Obligations.NothingMovesWithoutAFrame : Prop :=
  ∀ s : State, s.hw.frame ≠ .aligned →
    (∀ i r, Instr.request i = some r → exec i s = .next s) ∧
    (∀ c w, exec (.inboundWord c w) s = .next s) ∧ (∀ c ws, exec (.malformed c ws) s = .next s) ∧
    (∀ c ws, exec (.overrun c ws) s = .next s) ∧
    (∀ c, (s.hw.frame = .resynced → c ≠ 0) → exec (.outboundSlot c) s = .next s)

/-- OUTBOUND_SLOT: while response words remain the next one is sent and counted, and the last one ends the pending
request; otherwise the idle status word is sent, built from the state as it stands. At the slot's end a response whose
last word has gone leaves the buffer (R172). `u` is the state at the end of the slot before. After a resynchronisation
slot 0 is the one that comes, and the frame goes on from it (R166; log entry 33). -/
def Obligations.OutboundSlotSendsTheNextWord : Prop :=
  (∀ (s u : State) (c : Client), s.hw.frame = .aligned ∨ (s.hw.frame = .resynced ∧ c = 0) → u = s.slotEnd →
    ∃ t, exec (.outboundSlot c) s = .next t ∧
    t = u.setHw t.hw ∧ t.hw.frame = .aligned ∧ (∀ d, d ≠ c → t.link d = u.link d) ∧
    (∀ w, (u.link c).response[(u.link c).sent]? = some w →
      t.link c = { u.link c with
        sent := (u.link c).sent + 1
        pending := if (u.link c).sent + 1 = (u.link c).response.length then none else (u.link c).pending } ∧
      ∃ x, t.hw.tx = some x ∧ x.client = c ∧ x.word = w) ∧
    ((u.link c).response[(u.link c).sent]? = none → t.link c = u.link c ∧
      t.hw.tx = some { client := c, word := u.idleWord c, kind := .idle })) ∧
  (∀ (s : State) (x : Tx), s.hw.tx = some x →
    s.slotEnd.hw.tx = none ∧ (∀ d, d ≠ x.client → s.slotEnd.link d = s.link d) ∧
    s.slotEnd.link x.client =
      (if (s.link x.client).response.length ≤ (s.link x.client).sent then
        { s.link x.client with response := [], sent := 0 } else s.link x.client))

/-- The idle status word, field by field, and the three attention flags that follow their conditions: RESULT, FINDINGS
and HELD (R16, R17, R159, R173, R174). A state of the engine and of the selector is sent as its place in the list of R75
and of R55 (R168). The assembly buffer shows the words received while ASSEMBLING, 0 when EMPTY (R173). -/
def Obligations.IdleStatusWordAndAttention : Prop :=
  ∀ (s : State) (c : Client),
    (s.resultFlag c = true ↔ ∃ p, (s.port p).claimant = some c ∧ (s.port p).unread = true) ∧
    (s.findingsFlag c = true ↔ ∃ p, (s.port p).claimant = some c ∧ (s.port p).unseen = true) ∧
    (s.heldFlag c = true ↔ s.eng.state = .held ∧ s.hold.members.at c = true) ∧
    (s.idleWord c).extractLsb' 30 2 = 0#2 ∧
    (s.idleWord c).getLsbD 29 = s.resultFlag c ∧ (s.idleWord c).getLsbD 28 = s.findingsFlag c ∧
    (s.idleWord c).getLsbD 27 = s.heldFlag c ∧ (s.idleWord c).getLsbD 26 = (s.link c).overrun ∧
    (s.idleWord c).getLsbD 25 = (s.link c).framing ∧ (s.idleWord c).getLsbD 24 = (s.link c).store ∧
    ((s.idleWord c).extractLsb' 21 3).toNat = s.eng.state.code ∧
    ((s.idleWord c).extractLsb' 18 3).toNat = s.sel.state.code ∧
    (s.idleWord c).getLsbD 17 = s.office.clock.isSome ∧
    (s.queue.entries.length ≤ 32 → ((s.idleWord c).extractLsb' 11 6).toNat = s.queue.entries.length) ∧
    (s.idleWord c).getLsbD 10 = (s.link c).assembly.isAssembling ∧
    ((s.link c).assembly.received ≤ 15 → ((s.idleWord c).extractLsb' 6 4).toNat = (s.link c).assembly.received) ∧
    (s.idleWord c).extractLsb' 0 6 = 0#6 ∧
    (Assembly.empty.isAssembling = false ∧ Assembly.empty.received = 0) ∧
    (∀ ws n, (Assembly.assembling ws n).isAssembling = true ∧ (Assembly.assembling ws n).received = ws.length) ∧
    [EngState.idle, .position, .dark, .acquire, .analyse, .draining, .held].map EngState.code = List.range 7 ∧
    [SelState.lost, .homing, .moving, .settling, .settled, .fault].map SelState.code = List.range 6

/-- FRAME_SYNC inside a slot: the slot's outbound word is cut, a response word is not counted as sent and the request
its last word closed is present again, the client's assembly is unchanged and its FRAMING flag is set; no other link
and no block changes. On a slot's first bit no word is cut and no flag is set. At every bit but bit 0 of the frame its
bit becomes bit 0 of slot 0; at bit 0 it confirms the frame. While the part waits for a sync, it starts the frame with
no flag; while the highway is lost it has none (R165, R166, R178; log entries 25 and 33). -/
def Obligations.FrameSyncCutsOnlyItsSlot : Prop :=
  ∀ (s : State) (bit : Fin 128) (c : Client), c.val = bit.val / 32 →
    (s.hw.frame = .aligned ∨ s.hw.frame = .resynced →
      (bit.val = 0 → exec (.frameSync bit) s = .next s) ∧
      (bit.val ≠ 0 → bit.val % 32 = 0 →
        exec (.frameSync bit) s = .next (s.setHw { s.hw with frame := .resynced })) ∧
      (bit.val % 32 ≠ 0 → ∃ t, exec (.frameSync bit) s = .next t ∧ t = s.setHw t.hw ∧
        t.hw.frame = .resynced ∧ (∀ d, d ≠ c → t.link d = s.link d) ∧
        (t.link c).assembly = (s.link c).assembly ∧ (t.link c).framing = true ∧
        (t.link c).overrun = (s.link c).overrun ∧ (t.link c).store = (s.link c).store ∧
        (t.link c).response = (s.link c).response ∧
        (∀ x, s.hw.tx = some x → x.client = c → t.hw.tx = none) ∧
        (∀ x, s.hw.tx = some x → x.client ≠ c → t.hw.tx = s.hw.tx ∧ t.link c = { s.link c with framing := true }) ∧
        (∀ x closes, s.hw.tx = some x → x.client = c → x.kind = .response closes →
          (t.link c).sent = (s.link c).sent - 1 ∧
          (t.link c).pending = (if closes.isSome then closes else (s.link c).pending)) ∧
        (∀ x, s.hw.tx = some x → x.client = c → x.kind = .idle → t.link c = { s.link c with framing := true }) ∧
        (s.hw.tx = none → t.hw.tx = none ∧ t.link c = { s.link c with framing := true }))) ∧
    (s.hw.frame = .waiting → exec (.frameSync bit) s = .next (s.setHw { s.hw with frame := .aligned })) ∧
    (s.hw.frame = .lost → exec (.frameSync bit) s = .next s)

/-- A response word cut off by a frame sync is sent again, whole, in the client's next outbound slot, and the pending
request is present from the cut until the first bit of that slot. Between the sync and slot 0 no other slot comes and no
inbound word is taken, of the cut slot or another (R166; log entry 33). `u` is the state after the sync, `w` after
slot 0, and `v` after the client's slot. -/
def Obligations.CutResponseWordIsSentAgain : Prop :=
  ∀ (s t u v w : State) (bit : Fin 128) (c : Client), s.hw.frame = .aligned → c.val = bit.val / 32 →
    bit.val % 32 ≠ 0 → (∃ x, (s.slotEnd.link c).response[(s.slotEnd.link c).sent]? = some x) →
    exec (.outboundSlot c) s = .next t → exec (.frameSync bit) t = .next u → exec (.outboundSlot 0) u = .next w →
    (c = 0 → v = w) → (c ≠ 0 → exec (.outboundSlot c) w = .next v) →
      (∀ d, d ≠ 0 → exec (.outboundSlot d) u = .next u) ∧ (∀ d x, exec (.inboundWord d x) u = .next u) ∧
      v.hw.tx = t.hw.tx ∧ (u.link c).pending = (s.link c).pending ∧
      (c ≠ 0 → (w.link c).pending = (s.link c).pending) ∧ v.link c = { t.link c with framing := true }

/-- HIGHWAY_LOSS drops every link's words, pending request and response, clears OVERRUN and FRAMING, keeps STORE and
every block, and loses the frame; a second loss changes nothing. HIGHWAY_RETURN ends the loss and waits for a sync.
FRAME_ALIGNMENT starts the frame with no flag (R165, R178). HIGHWAY_RETURN outside a loss and FRAME_ALIGNMENT outside
the wait change nothing (log entries 3 and 25). -/
def Obligations.HighwayLossReturnAndAlignment : Prop :=
  (∀ s : State, s.hw.frame ≠ .lost → ∃ t, exec .highwayLoss s = .next t ∧ t = s.setHw t.hw ∧ t.hw.frame = .lost ∧
    t.hw.tx = none ∧ ∀ c, t.link c =
      { assembly := .empty, pending := none, response := [], sent := 0, overrun := false, framing := false,
        store := (s.link c).store }) ∧
  (∀ s : State, s.hw.frame = .lost → exec .highwayLoss s = .next s ∧
    exec .highwayReturn s = .next (s.setHw { s.hw with frame := .waiting })) ∧
  (∀ s : State, s.hw.frame ≠ .lost → exec .highwayReturn s = .next s) ∧
  (∀ s : State, s.hw.frame = .waiting → exec .frameAlignment s = .next (s.setHw { s.hw with frame := .aligned })) ∧
  (∀ s : State, s.hw.frame ≠ .waiting → exec .frameAlignment s = .next s)

/-- STATUS: OK with the fields in the order of R176 as they stand when it is taken; then OVERRUN, FRAMING and STORE of
the client, and nothing else, are cleared. -/
def Obligations.StatusReportsThenClears : Prop :=
  ∀ (s : State) (c : Client) (tag : Tag) (l : Link), s.takes c → l = s.linkAfter c true →
    ∃ t, exec (.status c tag) s = .next t ∧
      Answered s t c { l with overrun := false, framing := false, store := false } 20 tag
        { code := .ok
          body := [num s.eng.state.code, num s.sel.state.code, optNum (s.sel.target.map (fun p => p.val)),
            optNum s.office.clock, num s.queue.entries.length, flag (s.hold.members.at c), num s.hold.list.length,
            flag (s.resultFlag c), flag (s.findingsFlag c), flag (s.heldFlag c), flag l.overrun, flag l.framing,
            flag l.store] } ∧
      t = s.setHw t.hw

/-- LINK RESET is taken whether or not a request is pending: the client's link holds the LINK RESET and its response
alone, with the latched flags clear; in one event the client's QUEUED entries leave, each with a CANCELLED result, and
the client leaves the hold set, which may end a hold; the RUNNING entry stays, unless the end of the hold ends its test
(with the selector in FAULT). The latch drain runs once, after all have left, and then the arbiter (R40, R42, R164,
R177). `u` is the state with the entries gone, `v` with the client out of the hold set. -/
def Obligations.LinkResetDropsTheLinkAndItsQueuedTests : Prop :=
  ∀ (s : State) (c : Client) (tag : Tag) (mine : Prop), s.hw.frame = .aligned →
    (mine ↔ ∃ e ∈ s.queue.entries, e.run = none ∧ e.client = c) →
    ∃ t u v, exec (.linkReset c tag) s = .next t ∧
      Answered s t c Link.reset 21 tag { code := .ok, body := [] } ∧
      u = (s.setPorts u.ports).setQueue { s.queue with
        entries := s.queue.entries.filter (fun e => e.run.isSome || decide (e.client ≠ c)) } ∧
      (∀ p, u.port p = { s.port p with result := (u.port p).result, unread := (u.port p).unread }) ∧
      (∀ e ∈ s.queue.entries, e.run = none → e.client = c → (u.port e.port).unread = true ∧
        ∃ f ∈ s.queue.entries, f.run = none ∧ f.client = c ∧ f.port = e.port ∧
          (u.port e.port).result = some (queuedResult f .cancelled s.office.clock)) ∧
      (∀ p, (∀ e ∈ s.queue.entries, e.run = none → e.client = c → e.port ≠ p) → u.port p = s.port p) ∧
      v = u.leaveHold c ∧
      (mine → s.queue.running = none ∨ v.queue.running ≠ none → t = (v.drain.arbitrate).setHw t.hw) ∧
      (¬ mine ∨ (s.queue.running ≠ none ∧ v.queue.running = none) → t = (v.arbitrate).setHw t.hw) ∧
      (∀ e, s.queue.running = some e →
        (¬ (s.eng.state = .held ∧ s.sel.state = .fault ∧ s.hold.members.at c = true ∧
          ∀ d, d ≠ c → s.hold.members.at d = false) → (∀ ri, e.run = some ri → ri.cancelPending = false) →
          v.queue.running ≠ none) ∧
        (s.eng.state = .held → s.sel.state = .fault → s.hold.members.at c = true →
          (∀ d, d ≠ c → s.hold.members.at d = false) →
          t.queue = (s.setQueue { s.queue with
            entries := s.queue.entries.filter (fun x => decide (x.run = none ∧ x.client ≠ c)) }).drain.queue)) ∧
      t.hold.members.at c = false ∧ (∀ d, d ≠ c → t.hold.members.at d = s.hold.members.at d)

/-! ### Ports and claims (chapter 1) -/

/-- CLAIM: an unclaimed port becomes the client's, its own stays so, another's is TAKEN, and a number above 31 is
BAD_PORT; nothing else changes (R3, R4). -/
def Obligations.ClaimFollowsItsTable : Prop :=
  ∀ (s : State) (c : Client) (tag : Tag) (port : Payload), s.takes c →
    (32 ≤ port.toNat → ∃ t, exec (.claim c tag port) s = .next t ∧
      Answered s t c (s.linkAfter c false) 1 tag (.plain .badPort) ∧ t = s.setHw t.hw) ∧
    (∀ p : PortNo, port.toNat = p.val → ∃ t, exec (.claim c tag port) s = .next t ∧
      ((s.port p).claimant = none → Answered s t c (s.linkAfter c false) 1 tag (.plain .ok) ∧
        t = (s.setPort p { s.port p with claimant := some c }).setHw t.hw) ∧
      ((s.port p).claimant = some c → Answered s t c (s.linkAfter c false) 1 tag (.plain .ok) ∧ t = s.setHw t.hw) ∧
      (∀ d, (s.port p).claimant = some d → d ≠ c →
        Answered s t c (s.linkAfter c false) 1 tag (.plain .taken) ∧ t = s.setHw t.hw))

/-- Every request that names a port answers BAD_PORT above 31, and every one but CLAIM answers NOT_OWNER for a port
whose claimant is not the client; a refused request changes nothing but the link (R3). The second row of GET TRACE, with
source BASELINE, does the same (log entry 24). -/
def Obligations.PortChecksRefuse : Prop :=
  (∀ (s : State) (c : Client) (tag : Tag) (r : Request) (v : Payload), s.takes c → Request.namedPort r = some v →
    ∃ t, exec (r.command c tag) s = .next t ∧
      (32 ≤ v.toNat → Answered s t c (s.linkAfter c false) r.code tag (.plain .badPort) ∧ t = s.setHw t.hw) ∧
      (∀ p : PortNo, v.toNat = p.val → (s.port p).claimant ≠ some c → (∀ x, r ≠ .claim x) →
        Answered s t c (s.linkAfter c false) r.code tag (.plain .notOwner) ∧ t = s.setHw t.hw)) ∧
  (∀ (s : State) (c : Client) (tag : Tag) (v band first count : Payload), s.takes c →
    ∃ t, exec (.getTraceBaseline c tag v band first count) s = .next t ∧
      (32 ≤ v.toNat → Answered s t c (s.linkAfter c false) 12 tag (.plain .badPort) ∧ t = s.setHw t.hw) ∧
      (∀ p : PortNo, v.toNat = p.val → (s.port p).claimant ≠ some c →
        Answered s t c (s.linkAfter c false) 12 tag (.plain .notOwner) ∧ t = s.setHw t.hw))

/-- RELEASE by the claimant, with the queue in its form (QueueInv) and the engine HELD only while a client holds
(HoldInv): in one event the record is that of a port never claimed, no entry, fault entry, latch or last-trace pair of
the port is left, a running test of the port is detached, the fault entries of other ports, their records, the slots and
the commit queue stay; the queue entries and latches of other ports stay as they were but for the latch drain, which
follows when an entry has left; the selector stays, and so does the running test of another port; then the arbiter
chooses as R30 allows (R5, R6, R7). `u` has the port's record, entries and latch gone, and `v` is the state before the
arbiter. -/
def Obligations.ReleaseLeavesThePortClean : Prop :=
  ∀ (s : State) (c : Client) (tag : Tag) (port : Payload) (p : PortNo), s.takes c → port.toNat = p.val →
    (s.port p).claimant = some c → QueueInv s → HoldInv s → ∃ t, exec (.release c tag port) s = .next t ∧
      Answered s t c (s.linkAfter c false) 2 tag (.plain .ok) ∧
      (∃ v u : State, t = (v.arbitrate).setHw t.hw ∧ v.sel = s.sel ∧ v.office = s.office ∧
        u = (s.setPort p
            { claimant := none, profile := Profile.default, result := none, unread := false, unseen := false }).setQueue
          { s.queue with
            entries := s.queue.entries.filter (fun e => decide (e.port ≠ p))
            latches := s.queue.latches.put p false } ∧
        ((∃ e ∈ s.queue.entries, e.port = p) → v.queue = u.drain.queue) ∧
        ((∀ e ∈ s.queue.entries, e.port ≠ p) → v.queue = u.queue) ∧
        ((∀ e, s.queue.running = some e → e.port ≠ p) → ∀ pair, (∀ x, pair = some x ↔ s.eng.lastPair = some x ∧
            x.port ≠ p) →
          v = ((u.setFaults (s.faults.filter (fun f => decide (f.port ≠ p)))).setEng
            { s.eng with lastPair := pair }).setQueue v.queue)) ∧
      (∀ e, s.queue.running = some e → e.port ≠ p → t.queue.running = some e ∧ t.sel = s.sel ∧
        t.eng = { s.eng with lastPair := t.eng.lastPair }) ∧
      t.port p =
        { claimant := none, profile := Profile.default, result := none, unread := false, unseen := false } ∧
      (∀ q, q ≠ p → t.port q = s.port q) ∧ (∀ e ∈ t.queue.entries, e.port ≠ p) ∧
      t.faults = s.faults.filter (fun f => decide (f.port ≠ p)) ∧ t.queue.latches.at p = false ∧
      (∀ x, t.eng.lastPair = some x → x.port ≠ p) ∧ t.store.slots = s.store.slots ∧
      t.store.commits = s.store.commits ∧ t.hold.members = s.hold.members ∧
      (∀ e, s.queue.running = some e → e.port = p → s.eng.state ≠ .idle →
        t.queue.running = none ∧
        (s.eng.state ≠ .held → t.eng.hand = .detached ∧ t.eng.state = s.eng.state ∧ t.eng.snap = s.eng.snap) ∧
        (s.eng.state = .held →
          t.eng.hand = .none ∧ t.eng.state = .held ∧ t.eng.snap = none ∧ t.hold.mark = false))

/-- SET PROFILE by the claimant: the whole profile is replaced by the adjusted one, which the response carries; ADJUSTED
exactly when a stored field differs from the value the request carried (R10, R11; that an enable is sent as 1 for yes is
log entry 10). -/
def Obligations.SetProfileStoresTheAdjustedProfile : Prop :=
  ∀ (s : State) (c : Client) (tag : Tag) (port : Payload) (f : ProfileWords) (p : PortNo), s.takes c →
    port.toNat = p.val → (s.port p).claimant = some c → ∃ t, exec (.setProfile c tag port f) s = .next t ∧
      t = (s.setPort p { s.port p with profile := adjustProfile f }).setHw t.hw ∧
      Answered s t c (s.linkAfter c false) 3 tag
        { code := (if differsFrom (adjustProfile f) f then .adjusted else .ok), body := (adjustProfile f).body }

/-- What SET PROFILE stores: every field legal and the dead zone below P / 2 (R9); a legal value as sent, a value below
its range the lowest and one above it the highest; P and W the next lower listed value; the pulse code the highest one
not above the adjusted value with i0 below P / 2; an enable is yes for every value but 0 (R10, R11). The comparison
behind ADJUSTED is field by field. -/
def Obligations.AdjustedProfileIsLegal : Prop :=
  ∀ (f : ProfileWords) (x : Profile), x = adjustProfile f →
    x.legal = true ∧
    (∀ (v n lo hi : Nat), (v, n, lo, hi) ∈
        [(f.groupIndex.toNat, x.groupIndex, 140000, 160000), (f.period.toNat, x.period, 0, 5),
          (f.averages.toNat, x.averages, 8, 16), (f.floorMargin.toNat, x.floorMargin, 1, 255),
          (f.stepThreshold.toNat, x.stepThreshold, 4, 255),
          (f.reflectionThreshold.toNat, x.reflectionThreshold, 16, 1023),
          (f.confirmLength.toNat, x.confirmLength, 1, 64), (f.bendMargin.toNat, x.bendMargin, 0, 5000),
          (f.matchDistance.toNat, x.matchDistance, 1, 10000)] →
      (lo ≤ v → v ≤ hi → n = v) ∧ (v < lo → n = lo) ∧ (hi < v → n = hi)) ∧
    (f.points.toNat < 1024 → x.points = 1024) ∧
    (1024 ≤ f.points.toNat → x.points ≤ f.points.toNat ∧
      ∀ y ∈ [1024, 2048, 4096, 8192, 16384], y ≤ f.points.toNat → y ≤ x.points) ∧
    (f.smoothing.toNat = 0 → x.smoothing = 1) ∧
    (1 ≤ f.smoothing.toNat → x.smoothing ≤ f.smoothing.toNat ∧
      ∀ y ∈ [1, 2, 4, 8, 16, 32], y ≤ f.smoothing.toNat → y ≤ x.smoothing) ∧
    x.pulse ≤ min 6 f.pulse.toNat ∧ deadZoneEnd x.pulse x.period < x.points / 2 ∧
    (∀ y, x.pulse < y → y ≤ min 6 f.pulse.toNat → x.points / 2 ≤ deadZoneEnd y x.period) ∧
    (x.bandAEnable = true ↔ f.bandAEnable.toNat ≠ 0) ∧ (x.losEnable = true ↔ f.losEnable.toNat ≠ 0) ∧
    (differsFrom x f = false ↔
      x.groupIndex = f.groupIndex.toNat ∧ x.period = f.period.toNat ∧ x.points = f.points.toNat ∧
      x.pulse = f.pulse.toNat ∧ x.averages = f.averages.toNat ∧ x.floorMargin = f.floorMargin.toNat ∧
      x.stepThreshold = f.stepThreshold.toNat ∧ x.reflectionThreshold = f.reflectionThreshold.toNat ∧
      x.smoothing = f.smoothing.toNat ∧ x.confirmLength = f.confirmLength.toNat ∧
      x.bendMargin = f.bendMargin.toNat ∧ x.matchDistance = f.matchDistance.toNat)

/-- GET PROFILE gives the stored profile with i0 and S and changes nothing (R13). GET RESULT gives the record, or one
all-ones word, and clears the port's unread-result flag and nothing else (R16). The words of a number, a flag, an absent
field, a profile and a result record are laid out as R168 and 11.6 say, an enable as 1 for yes (log entry 10). -/
def Obligations.GetProfileAndGetResultRead : Prop :=
  (∀ (s : State) (c : Client) (tag : Tag) (port : Payload) (p : PortNo), s.takes c → port.toNat = p.val →
    (s.port p).claimant = some c →
      (∃ t, exec (.getProfile c tag port) s = .next t ∧ t = s.setHw t.hw ∧
        Answered s t c (s.linkAfter c false) 4 tag
          { code := .ok
            body := (s.port p).profile.body ++
              [num (deadZoneEnd (s.port p).profile.pulse (s.port p).profile.period),
                num (spacing (s.port p).profile.groupIndex (s.port p).profile.period)] }) ∧
      (∃ t, exec (.getResult c tag port) s = .next t ∧
        t = (s.setPort p { s.port p with unread := false }).setHw t.hw ∧
        Answered s t c (s.linkAfter c false) 5 tag
          { code := .ok
            body := match (s.port p).result with | some r => r.body | none => [BitVec.allOnes 30] })) ∧
  (∀ n, n < 2 ^ 30 → (num n).toNat = n ∧ optNum (some n) = num n) ∧ optNum none = BitVec.allOnes 30 ∧
  flag true = 1#30 ∧ flag false = 0#30 ∧
  (∀ x : Profile, x.body =
    [num x.groupIndex, num x.period, num x.points, num x.pulse, num x.averages, num x.floorMargin,
      num x.stepThreshold, num x.reflectionThreshold, num x.smoothing, num x.confirmLength, num x.bendMargin,
      num x.matchDistance, flag x.bandAEnable, flag x.losEnable]) ∧
  (∀ (r : ResultRecord) (kind band status cause : Payload) (cells : BandResult → List Payload),
    kind = (match r.kind with | .routine => 0#30 | .urgent => 1#30 | .baseline _ => 2#30 | .confirm => 3#30) →
    band = (match r.kind with | .baseline .A => 0#30 | .baseline .B => 1#30 | _ => BitVec.allOnes 30) →
    status = (match r.status with | .done => 0#30 | .cancelled => 1#30 | .evicted => 2#30 | .failed => 3#30) →
    cause = (match r.cause with | some .selector => 0#30 | some .disturbed => 1#30 | none => BitVec.allOnes 30) →
    (∀ x, cells x = [flag x.run,
      match x.baseline with
        | some .matching => 0#30 | some .noBaseline => 1#30 | some .mismatch => 2#30 | none => BitVec.allOnes 30,
      optNum x.endIndex, optNum x.dark]) →
    r.body = [num r.ticket, kind, band, status, cause] ++ cells r.bands.a ++ cells r.bands.b ++
      [num r.findings, flag r.more, flag r.tableFull, optNum r.time])

/-! ### The test queue (chapter 2) -/

/-- SCHEDULE from the claimant: BAD_VALUE for a kind it does not name; a duplicate is MERGED with its ticket and changes
nothing; an URGENT over a QUEUED ROUTINE upgrades it in place and clears the latch; otherwise FULL, SHARE, or a new
newest entry with the next ticket, after which the arbiter chooses as R30 allows (R22, R23, R24, R39). -/
def Obligations.ScheduleFollowsItsChecks : Prop :=
  ∀ (s : State) (c : Client) (tag : Tag) (port kind band : Payload) (p : PortNo), s.takes c → port.toNat = p.val →
    (s.port p).claimant = some c → ∃ t, exec (.schedule c tag port kind band) s = .next t ∧
      ((3 ≤ kind.toNat ∨ (kind.toNat = 2 ∧ 2 ≤ band.toNat)) →
        Answered s t c (s.linkAfter c false) 6 tag (.plain .badValue) ∧ t = s.setHw t.hw) ∧
      ∀ k, (k = .routine ∧ kind.toNat = 0 ∨ k = .urgent ∧ kind.toNat = 1 ∨
          k = .baseline .A ∧ kind.toNat = 2 ∧ band.toNat = 0 ∨ k = .baseline .B ∧ kind.toNat = 2 ∧ band.toNat = 1) →
        (∀ e, s.queue.findQueued p k = some e →
          (e ∈ s.queue.entries ∧ e.run = none ∧ e.port = p ∧ e.kind = k) ∧
          Answered s t c (s.linkAfter c false) 6 tag { code := .merged, body := [num e.ticket] } ∧ t = s.setHw t.hw) ∧
        (k = .routine → s.queue.findQueued p .routine = none → ∀ e, s.queue.findQueued p .urgent = some e →
          Answered s t c (s.linkAfter c false) 6 tag { code := .merged, body := [num e.ticket] } ∧ t = s.setHw t.hw) ∧
        (k = .urgent → s.queue.findQueued p .urgent = none → ∀ e, s.queue.findQueued p .routine = some e →
          Answered s t c (s.linkAfter c false) 6 tag { code := .upgraded, body := [num e.ticket] } ∧
          t = ((s.setQueue { s.queue with
            entries := s.queue.entries.map (fun x =>
              if x.run = none ∧ x.port = p ∧ x.kind = .routine then { x with kind := .urgent } else x)
            latches := s.queue.latches.put p false }).arbitrate).setHw t.hw) ∧
        (s.queue.findQueued p k = none → (k = .routine → s.queue.findQueued p .urgent = none) →
          (k = .urgent → s.queue.findQueued p .routine = none) →
          (32 ≤ s.queue.entries.length →
            Answered s t c (s.linkAfter c false) 6 tag (.plain .full) ∧ t = s.setHw t.hw) ∧
          (s.queue.entries.length < 32 → 12 ≤ s.queue.shareCount c →
            Answered s t c (s.linkAfter c false) 6 tag (.plain .share) ∧ t = s.setHw t.hw) ∧
          (s.queue.entries.length < 32 → s.queue.shareCount c < 12 →
            Answered s t c (s.linkAfter c false) 6 tag { code := .ok, body := [num s.queue.nextTicket] } ∧
            t = ((s.setQueue { s.queue with
              entries := s.queue.entries ++
                [{ ticket := s.queue.nextTicket, client := c, port := p, kind := k, origin := .request, run := none }]
              lastTicket := some s.queue.nextTicket
              latches := if k = .urgent then s.queue.latches.put p false else s.queue.latches }).arbitrate).setHw
                t.hw))

/-- The ticket issued: the first value after the last ticket issued, one more or 1 after 65535 and never 0, that no
entry holds (R21). -/
def Obligations.TicketIssuedIsTheNextFreeOne : Prop :=
  (∀ n, (n < 65535 → succTicket n = n + 1) ∧ (65535 ≤ n → succTicket n = 1)) ∧
  ∀ q : TestQueue, q.entries.length ≤ 32 →
    (∀ e ∈ q.entries, e.ticket ≠ q.nextTicket) ∧ 1 ≤ q.nextTicket ∧ q.nextTicket ≤ 65535 ∧
    ∃ n, n ≤ 32 ∧ q.nextTicket = succTicket^[n + 1] (q.lastTicket.getD 0) ∧
      ∀ m, m < n → ∃ e ∈ q.entries, e.ticket = succTicket^[m + 1] (q.lastTicket.getD 0)

/-- CANCEL: UNKNOWN for a ticket no entry holds, NOT_OWNER for another client's; a QUEUED entry leaves with a CANCELLED
result, which with the queue in its form (QueueInv) stands after the latch drain and the arbiter, which follow; a
RUNNING one is TOO_LATE in ANALYSE, ends at once in HELD, and otherwise has cancel pending set, once (R25, R26). -/
def Obligations.CancelFollowsTheEntry : Prop :=
  ∀ (s : State) (c : Client) (tag : Tag) (ticket : Payload), s.takes c →
    ∃ t, exec (.cancel c tag ticket) s = .next t ∧
      ((∀ e ∈ s.queue.entries, e.ticket ≠ ticket.toNat) →
        Answered s t c (s.linkAfter c false) 7 tag (.plain .unknown) ∧ t = s.setHw t.hw) ∧
      ∀ e, s.queue.entries.find? (fun x => decide (x.ticket = ticket.toNat)) = some e →
        (e.client ≠ c → Answered s t c (s.linkAfter c false) 7 tag (.plain .notOwner) ∧ t = s.setHw t.hw) ∧
        (e.client = c → e.run = none → Answered s t c (s.linkAfter c false) 7 tag (.plain .ok) ∧
          t = ((((s.setPort e.port { s.port e.port with
              result := some (queuedResult e .cancelled s.office.clock), unread := true }).setQueue
            { s.queue with
              entries := s.queue.entries.filter (fun x =>
                x.run.isSome || decide (x.ticket ≠ e.ticket)) }).drain).arbitrate).setHw t.hw ∧
          (QueueInv s → (t.port e.port).result = some (queuedResult e .cancelled s.office.clock) ∧
            (t.port e.port).unread = true)) ∧
        (∀ ri, e.client = c → e.run = some ri →
          (ri.cancelPending = true →
            Answered s t c (s.linkAfter c false) 7 tag (.plain .ok) ∧ t = s.setHw t.hw) ∧
          (ri.cancelPending = false → s.eng.state = .analyse →
            Answered s t c (s.linkAfter c false) 7 tag (.plain .tooLate) ∧ t = s.setHw t.hw) ∧
          (ri.cancelPending = false → s.eng.state = .held →
            Answered s t c (s.linkAfter c false) 7 tag (.plain .ok) ∧
            t = ((s.clearMark.cancelTest).arbitrate).setHw t.hw) ∧
          (ri.cancelPending = false → s.eng.state ≠ .analyse → s.eng.state ≠ .held →
            Answered s t c (s.linkAfter c false) 7 tag (.plain .ok) ∧
            t = (s.setQueue { s.queue with
              entries := s.queue.entries.map (fun x =>
                { x with run := x.run.map (fun y => { y with cancelPending := true }) }) }).setHw t.hw))

/-- LIST QUEUE: the counts, the pointer, the client's latches, its RUNNING entry's fields and its entries in age order;
it changes no state (R28, R175). The latch words hold bit i for the i-th port of their range; the four words on the
RUNNING entry hold the sets of bands and the flags, or all ones; an entry word holds state, position, ticket, port, and
kind with origin, and the entries keep their positions over the whole queue (R168, R175). -/
def Obligations.ListQueueIsOnePicture : Prop :=
  (∀ (s : State) (c : Client) (tag : Tag), s.takes c →
    (∃ t, exec (.listQueue c tag) s = .next t ∧ t = s.setHw t.hw ∧
      Answered s t c (s.linkAfter c true) 8 tag
        { code := .ok
          body := [num s.queue.entries.length, num (s.queue.shareCount c), num s.queue.pointer.val, s.latchWord c 0,
              s.latchWord c 16] ++ runningWords c s.queue ++ queueWords c s.queue.entries 0 }) ∧
    (∀ p : PortNo, (s.latchWord c (if p.val < 16 then 0 else 16)).getLsbD (p.val % 16) =
      (decide ((s.port p).claimant = some c) && s.queue.latches.at p))) ∧
  (∀ (q : TestQueue) (c : Client),
    ((∀ e, q.running = some e → e.client ≠ c) → runningWords c q = List.replicate 4 (BitVec.allOnes 30)) ∧
    (∀ e ri, q.running = some e → e.run = some ri → e.client = c → runningWords c q =
      [num (ri.plan.a.toNat + 2 * ri.plan.b.toNat), num (ri.done.a.toNat + 2 * ri.done.b.toNat), flag ri.suspended,
        flag ri.cancelPending]) ∧
    queueWords c q.entries 0 =
      (q.entries.zipIdx.filter (fun x => decide (x.1.client = c))).map (fun x => queueWord x.1 x.2)) ∧
  (∀ (e : Entry) (i code : Nat), e.ticket ≤ 65535 → i < 32 →
    code = (match e.kind, e.origin with
      | .routine, _ => 0 | .urgent, .los => 2 | .urgent, _ => 1 | .baseline .A, _ => 3 | .baseline .B, _ => 4
      | .confirm, _ => 5) →
    (queueWord e i).getLsbD 29 = e.run.isSome ∧ ((queueWord e i).extractLsb' 24 5).toNat = i ∧
      ((queueWord e i).extractLsb' 8 16).toNat = e.ticket ∧ ((queueWord e i).extractLsb' 3 5).toNat = e.port.val ∧
      ((queueWord e i).extractLsb' 0 3).toNat = code)

/-- An ignored edge changes no state: the port is unclaimed, or its LOS urgent enable is no when the edge is taken
(R36). -/
def Obligations.IgnoredLosEdgeChangesNothing : Prop :=
  ∀ (s : State) (p : PortNo), ((s.port p).claimant = none ∨ (s.port p).profile.losEnable = false) →
    exec (.losEdge p) s = .next s

/-- An edge that is not ignored acts by the first line of R37's table that holds: absorbed; upgrade in place; latch set
behind a running URGENT; a new URGENT of origin LOS for the claimant; the newest QUEUED ROUTINE evicted for it; latch
set. A QUEUED URGENT that it leaves clears the latch, and the arbiter chooses as R30 allows (R37, R38, R39). -/
def Obligations.LosEdgeFollowsItsTable : Prop :=
  ∀ (s : State) (p : PortNo) (c : Client), (s.port p).claimant = some c → (s.port p).profile.losEnable = true →
    ∃ t, exec (.losEdge p) s = .next t ∧
      ((s.queue.findQueued p .urgent).isSome = true → t = s) ∧
      (s.queue.findQueued p .urgent = none →
        ((s.queue.findQueued p .routine).isSome = true →
          t = (s.setQueue ((s.queue.upgrade p).setLatch p false)).arbitrate) ∧
        (s.queue.findQueued p .routine = none →
          (s.queue.urgentRunning p = true → t = s.setQueue (s.queue.setLatch p true)) ∧
          (s.queue.urgentRunning p = false →
            (s.queue.entries.length < 32 →
              t = (s.setQueue ((s.queue.addEntry c p .urgent .los).setLatch p false)).arbitrate) ∧
            (32 ≤ s.queue.entries.length →
              (∀ older e newer, s.queue.entries = older ++ e :: newer → e.run = none → e.kind = .routine →
                (∀ x ∈ newer, ¬ (x.run = none ∧ x.kind = .routine)) →
                t = (((s.setPort e.port { s.port e.port with
                    result := some (queuedResult e .evicted s.office.clock), unread := true }).setQueue
                  ((({ s.queue with
                    entries := s.queue.entries.filter (fun x => x.run.isSome || decide (x.ticket ≠ e.ticket)) }
                      : TestQueue).addEntry c p .urgent .los).setLatch p false)).arbitrate)) ∧
              ((∀ e ∈ s.queue.entries, ¬ (e.run = none ∧ e.kind = .routine)) →
                t = s.setQueue (s.queue.setLatch p true))))))

/-- The latch drain: it changes the queue alone, sets no latch, touches no RUNNING entry, and does not go past 32
entries; a latch it clears has become a QUEUED URGENT of its port; a latch of a claimed port that stays set waits for
room or for the port's running URGENT. The ports are served in increasing order, each by the first case that holds: no
latch, no room or a running URGENT changes nothing; a QUEUED URGENT clears the latch; a QUEUED ROUTINE becomes URGENT in
place; otherwise a new URGENT of the port's claimant and of origin LOS is appended with a new ticket (R40). -/
def Obligations.LatchDrainServesTheLatches : Prop :=
  ∀ s : State, s.drain = s.setQueue s.drain.queue ∧
    (∀ p, s.drain.queue.latches.at p = true → s.queue.latches.at p = true ∧
      (s.drain.queue.isFull = true ∨ s.drain.queue.urgentRunning p = true ∨ (s.port p).claimant = none)) ∧
    (∀ p, s.queue.latches.at p = true → s.drain.queue.latches.at p = false →
      ∃ e ∈ s.drain.queue.entries, e.run = none ∧ e.port = p ∧ e.kind = .urgent) ∧
    s.drain.queue.entries.length ≤ max 32 s.queue.entries.length ∧
    (∀ e : Entry, e.run.isSome = true → (e ∈ s.drain.queue.entries ↔ e ∈ s.queue.entries)) ∧
    ∃ serve : State → PortNo → State, s.drain = (List.finRange 32).foldl serve s ∧ ∀ (u : State) (p : PortNo),
      ((u.queue.latches.at p = false ∨ 32 ≤ u.queue.entries.length ∨
          ∃ e ∈ u.queue.entries, e.run.isSome = true ∧ e.port = p ∧ e.kind = .urgent) → serve u p = u) ∧
      (u.queue.latches.at p = true → u.queue.entries.length < 32 →
        (∀ e ∈ u.queue.entries, ¬ (e.run.isSome = true ∧ e.port = p ∧ e.kind = .urgent)) →
        ((∃ e ∈ u.queue.entries, e.run = none ∧ e.port = p ∧ e.kind = .urgent) →
          serve u p = u.setQueue { u.queue with latches := u.queue.latches.put p false }) ∧
        ((∀ e ∈ u.queue.entries, ¬ (e.run = none ∧ e.port = p ∧ e.kind = .urgent)) →
          ((∃ e ∈ u.queue.entries, e.run = none ∧ e.port = p ∧ e.kind = .routine) →
            serve u p = u.setQueue { u.queue with
              entries := u.queue.entries.map (fun x =>
                if x.run = none ∧ x.port = p ∧ x.kind = .routine then { x with kind := .urgent } else x)
              latches := u.queue.latches.put p false }) ∧
          ((∀ e ∈ u.queue.entries, ¬ (e.run = none ∧ e.port = p ∧ e.kind = .routine)) →
            ∀ c, (u.port p).claimant = some c → serve u p = u.setQueue { u.queue with
              entries := u.queue.entries ++ [{ ticket := u.queue.nextTicket, client := c, port := p, kind := .urgent,
                                               origin := .los, run := none }]
              lastTicket := some u.queue.nextTicket
              latches := u.queue.latches.put p false })))

/-- If an eligible entry is URGENT, the arbiter takes the oldest such entry, whatever its client and origin, and leaves
the round-robin pointer (R31). -/
def Obligations.ArbiterTakesTheOldestUrgent : Prop :=
  ∀ (s : State) (older newer : List Entry) (e : Entry), s.mayChoose = true →
    s.queue.entries = older ++ e :: newer → e.kind = .urgent → s.eligible e = true →
    (∀ x ∈ older, ¬ (x.kind = .urgent ∧ s.eligible x = true)) →
      s.arbitrate = s.startTest e s.queue.pointer ∧ s.arbitrate.queue.pointer = s.queue.pointer

/-- If no eligible entry is URGENT, the clients are taken in turn from the pointer, wrapping from 3 to 0; the first with
an eligible entry gives its oldest eligible CONFIRM, otherwise its oldest eligible BASELINE or ROUTINE, and the pointer
moves to the client after it. With nothing eligible nothing is chosen, and the pointer stays. An entry is eligible when
it is QUEUED, its band plan holds a band and, for a BASELINE, a staging buffer is free and the commit queue has room; no
choice is taken unless the engine is IDLE, the hold set empty and the selector not in FAULT (R29, R30, R32). -/
def Obligations.ArbiterTakesTheClientsInTurn : Prop :=
  (∀ (s : State) (e : Entry), s.eligible e = true ↔
    e.run = none ∧ ((s.resolve e.port e.kind).a = true ∨ (s.resolve e.port e.kind).b = true) ∧
      (∀ b, e.kind = .baseline b → (∃ i, s.store.buffers.at i = .free) ∧
        (s.store.commits.length < 3 ∨
          s.store.commits.length = 3 ∧ ∀ i, s.store.buffers.at i ≠ .reserved))) ∧
  (∀ s : State, s.mayChoose = true ↔
    s.eng.state = .idle ∧ (∀ c, s.hold.members.at c = false) ∧ s.sel.state ≠ .fault) ∧
  (∀ s : State, s.eng.state ≠ .idle ∨ (∃ c, s.hold.members.at c = true) ∨ s.sel.state = .fault → s.arbitrate = s) ∧
  ∀ s : State, s.mayChoose = true → (∀ x ∈ s.queue.entries, ¬ (x.kind = .urgent ∧ s.eligible x = true)) →
    ((∀ x ∈ s.queue.entries, s.eligible x = false) → s.arbitrate = s) ∧
    ∀ (k : Fin 4) (c : Client) (older newer : List Entry) (e : Entry), c = s.queue.pointer + k →
      (∀ j : Fin 4, j < k → ∀ x ∈ s.queue.entries, x.client = s.queue.pointer + j → s.eligible x = false) →
      s.queue.entries = older ++ e :: newer → e.client = c → s.eligible e = true →
      ((e.kind = .confirm ∧ ∀ x ∈ older, ¬ (x.client = c ∧ x.kind = .confirm ∧ s.eligible x = true)) ∨
        (e.kind ≠ .confirm ∧ (∀ x ∈ s.queue.entries, ¬ (x.client = c ∧ x.kind = .confirm ∧ s.eligible x = true)) ∧
          ∀ x ∈ older, ¬ (x.client = c ∧ s.eligible x = true))) →
        s.arbitrate = s.startTest e (c + 1) ∧ s.arbitrate.queue.pointer = c + 1

/-- The start of the chosen test: the entry RUNNING in its position with the resolver's plan, nothing done, nothing
pending; the snapshot of the port's profile; a buffer reserved for a BASELINE; the position request made. The engine is
in POSITION, or already in DARK on the first planned band when the selector is settled at the port. Dark values,
working traces, accumulators, block sums, clip flags, dark total and blocks done are cleared (R33, R76, R77, R78). A
position request, by the selector's state: arrival at once when it is SETTLED within 1 of the port; the move in
progress to the port joined; another move begun; the pending target set while HOMING; homing begun from LOST;
positioning failure in FAULT (R55, R59, R60, R66). The snapshot keeps eleven fields of the profile (R77). The buffer
reserved is one that was free (R145; which one is log entry 12), and with none free nothing changes. -/
def Obligations.TestStartTakesPlanAndSnapshot : Prop :=
  (∀ (s : State) (e : Entry) (next : Client), QueueInv s → s.mayChoose = true → s.choose = some (e, next) →
    s.arbitrate.queue.entries = s.queue.entries.map (fun x => if x.ticket = e.ticket then
        { x with run := some { plan := s.resolve e.port e.kind, done := ⟨false, false⟩, suspended := false,
                               cancelPending := false } } else x) ∧
      s.arbitrate.queue.pointer = next ∧ s.arbitrate.eng.hand = .entry e.ticket ∧
      s.arbitrate.eng.snap = some (s.port e.port).profile.snapshot ∧
      s.arbitrate.eng.lastPair = s.eng.lastPair ∧ s.arbitrate.ports = s.ports ∧ s.arbitrate.faults = s.faults ∧
      s.arbitrate.store = (if e.kind.isBaseline then s.store.reserve else s.store) ∧
      (s.sel.state = .settled → s.sel.target = some e.port → s.sel.offTarget = false →
        s.arbitrate.sel = s.sel ∧ s.arbitrate.eng.state = .dark ∧ s.arbitrate.eng.counter = 256 ∧
        s.arbitrate.eng.band = some (if (s.resolve e.port e.kind).b then .B else .A)) ∧
      (¬ (s.sel.state = .settled ∧ s.sel.target = some e.port ∧ s.sel.offTarget = false) →
        s.arbitrate.eng.state = .position ∧ s.arbitrate.sel = (s.sel.request e.port).1) ∧
      s.arbitrate.eng.darks = ⟨none, none⟩ ∧ s.arbitrate.eng.traces = ⟨none, none⟩ ∧ s.arbitrate.eng.accs = [] ∧
      s.arbitrate.eng.sums = [] ∧ s.arbitrate.eng.clips = [] ∧ s.arbitrate.eng.darkTotal = 0 ∧
      s.arbitrate.eng.blocksDone = 0 ∧ s.arbitrate.eng.trigger = none ∧
      (s.arbitrate.eng.state = .position → s.arbitrate.eng.band = none)) ∧
  (∀ x : Profile, x.snapshot = {
    groupIndex := x.groupIndex, period := x.period, points := x.points, pulse := x.pulse, averages := x.averages,
    floorMargin := x.floorMargin, stepThreshold := x.stepThreshold, reflectionThreshold := x.reflectionThreshold,
    smoothing := x.smoothing, confirmLength := x.confirmLength, bendMargin := x.bendMargin }) ∧
  (∀ st : Store,
    ((∃ i, st.buffers.at i = .free) → ∃ i, st.buffers.at i = .free ∧
      st.reserve = { st with buffers := st.buffers.put i .reserved }) ∧
    ((∀ i, st.buffers.at i ≠ .free) → st.reserve = st)) ∧
  ∀ (x begun : Selector) (p : PortNo), begun = { x with
      target := some p, changes := 0, moveTimer := some 2000000000, fresh := true
      settleTimer := if x.count.val = 64 * p.val then some 20000000 else none
      state := if x.count.val = 64 * p.val then .settling else .moving } →
    (x.offTarget = true ↔ ∃ q : PortNo, x.target = some q ∧
      1 < min ((x.count.val + 2048 - 64 * q.val) % 2048) ((64 * q.val + 2048 - x.count.val) % 2048)) ∧
    (x.state = .settled → x.target = some p → x.offTarget = false → x.request p = (x, .arrival)) ∧
    (x.state = .settled → x.target ≠ some p ∨ x.offTarget = true → x.request p = (begun, .quiet)) ∧
    (x.state = .moving ∨ x.state = .settling →
      (x.target = some p → x.request p = (x, .quiet)) ∧ (x.target ≠ some p → x.request p = (begun, .quiet))) ∧
    (x.state = .homing → x.request p = ({ x with pendingTarget := some p }, .quiet)) ∧
    (x.state = .lost → x.request p = ({ x with
      state := .homing, target := none, pendingTarget := some p, moveTimer := none, settleTimer := none
      homingTimer := some 6000000000 }, .quiet)) ∧
    (x.state = .fault → x.request p = (x, .failure))

/-! ### Office time and quiet windows (chapter 3) -/

/-- CLOCK_ADVANCE: an UNSET clock stays; a SET one advances by one, 86,399 to 0, and at a minute change the arbiter may
choose (R43, R45; that only a minute change is offered to it is log entry 30). SET CLOCK: BAD_VALUE from 86,400 on;
otherwise the clock is SET with the value, which the response carries (R44). SET WINDOW: BAD_VALUE when a minute is
above 1439, and then neither is stored; otherwise the client's window, and no other, is replaced whole, and the
response carries it and whether it is open now (R47). After a change the arbiter may choose (R45). -/
def Obligations.ClockAndWindowsAreSet : Prop :=
  ∀ s : State,
    (s.office.clock = none → exec .clockAdvance s = .next s) ∧
    (∀ v w, s.office.clock = some v → v < 86400 → w = (if v = 86399 then 0 else v + 1) →
      (w % 60 = 0 → exec .clockAdvance s = .next (s.setOffice { s.office with clock := some w }).arbitrate) ∧
      (w % 60 ≠ 0 → exec .clockAdvance s = .next (s.setOffice { s.office with clock := some w }))) ∧
    (∀ (c : Client) (tag : Tag) (v : Payload), s.takes c → ∃ t, exec (.setClock c tag v) s = .next t ∧
      (86400 ≤ v.toNat → Answered s t c (s.linkAfter c false) 10 tag (.plain .badValue) ∧ t = s.setHw t.hw) ∧
      (v.toNat < 86400 → Answered s t c (s.linkAfter c false) 10 tag { code := .ok, body := [num v.toNat] } ∧
        t = ((s.setOffice { s.office with clock := some v.toNat }).arbitrate).setHw t.hw)) ∧
    (∀ (c : Client) (tag : Tag) (start stop : Payload), s.takes c →
      ∃ t, exec (.setWindow c tag start stop) s = .next t ∧
        (1439 < start.toNat ∨ 1439 < stop.toNat →
          Answered s t c (s.linkAfter c false) 9 tag (.plain .badValue) ∧ t = s.setHw t.hw) ∧
        (start.toNat ≤ 1439 → stop.toNat ≤ 1439 → ∀ w : Window, w = { start := start.toNat, stop := stop.toNat } →
          Answered s t c (s.linkAfter c false) 9 tag
            { code := .ok, body := [num w.start, num w.stop, flag (w.isOpen s.office.clock)] } ∧
          t = ((s.setOffice { s.office with windows := s.office.windows.put c w }).arbitrate).setHw t.hw))

/-- A client's window is open when the clock is SET and the minute of day meets the condition of the window's shape,
and closed otherwise (R48). -/
def Obligations.WindowOpensByItsShape : Prop :=
  ∀ (o : Office) (c : Client) (w : Window), w = o.windows.at c →
    (o.clock = none → o.isOpen c = false) ∧
    ∀ v m, o.clock = some v → m = v / 60 →
      (w.start < w.stop → (o.isOpen c = true ↔ w.start ≤ m ∧ m < w.stop)) ∧
      (w.start > w.stop → (o.isOpen c = true ↔ m ≥ w.start ∨ m < w.stop)) ∧
      (w.start = w.stop → o.isOpen c = true)

/-- When the overriding condition does not hold, the band plan is the table's, by kind, owner's window and band A
enable; when it holds the plan is empty (R49, R50). -/
def Obligations.BandPlanFollowsTheTable : Prop :=
  ∀ (s : State) (p : PortNo) (k : Kind),
    ((s.port p).claimant = none ∨ s.sel.state = .fault ∨ (∃ c, s.hold.members.at c = true) →
      s.resolve p k = ⟨false, false⟩) ∧
    ∀ c, (s.port p).claimant = some c → s.sel.state ≠ .fault → (∀ d, s.hold.members.at d = false) →
      (s.office.isOpen c = true → (s.port p).profile.bandAEnable = true →
        s.resolve p .urgent = ⟨true, true⟩ ∧ s.resolve p .routine = ⟨true, true⟩) ∧
      (s.office.isOpen c = true → (s.port p).profile.bandAEnable = false →
        s.resolve p .urgent = ⟨false, true⟩ ∧ s.resolve p .routine = ⟨false, true⟩) ∧
      (s.office.isOpen c = true → s.resolve p (.baseline .A) = ⟨true, false⟩ ∧
        s.resolve p (.baseline .B) = ⟨false, true⟩ ∧ s.resolve p .confirm = ⟨true, false⟩) ∧
      (s.office.isOpen c = false → s.resolve p .urgent = ⟨false, true⟩ ∧ s.resolve p .routine = ⟨false, false⟩ ∧
        s.resolve p (.baseline .A) = ⟨false, false⟩ ∧ s.resolve p (.baseline .B) = ⟨false, false⟩ ∧
        s.resolve p .confirm = ⟨false, false⟩)

/-! ### The fibre selector (chapter 4) -/

/-- ENCODER_COUNT: in every state the count moves by one in the direction of R56's table, wrapping at 2047 and 0, and
rewrites the direction flag. LOST, HOMING and FAULT: nothing more. MOVING: a count in another direction than the flag,
unless it is the move's first, is a reversal; the third one fails the move (that a HUNT wins over a match on its own
count is log entry 8); the target position ends the drive in SETTLING. SETTLING: a count more than 1 away drives again
in the same move. SETTLED: a count more than 1 away is a disturbance, or rotation while the engine is HELD (R56, R60,
R61, R62, R64, R70, R71). `x` is the selector with the count taken, `d` its distance from the target position. The
motor runs forward at creep while HOMING; while MOVING in the shorter direction to the target position, forward when
that is at most 1024 counts away, at creep from 16 counts on; and is stopped in every other state (R55, R61, R66). -/
def Obligations.EncoderCountMovesTheRotor : Prop :=
  (∀ x : Selector,
    (x.state = .homing → x.motor = { run := true, dir := .forward, creep := true }) ∧
    (∀ p : PortNo, x.state = .moving → x.target = some p →
      x.motor.run = true ∧ (x.motor.dir = .forward ↔ (64 * p.val + 2048 - x.count.val) % 2048 ≤ 1024) ∧
      (x.motor.creep = true ↔
        min ((x.count.val + 2048 - 64 * p.val) % 2048) ((64 * p.val + 2048 - x.count.val) % 2048) ≤ 16)) ∧
    (x.state = .lost ∨ x.state = .settling ∨ x.state = .settled ∨ x.state = .fault → x.motor.run = false)) ∧
  ∀ (s : State) (e : EncoderEdge), ∃ t, exec (.encoderCount e) s = .next t ∧
    (e ∈ [⟨.A, true, false⟩, ⟨.A, false, true⟩, ⟨.B, true, true⟩, ⟨.B, false, false⟩] →
      t.sel.count.val = (s.sel.count.val + 1) % 2048 ∧ t.sel.dir = .forward) ∧
    (e ∈ [⟨.A, true, true⟩, ⟨.A, false, false⟩, ⟨.B, true, false⟩, ⟨.B, false, true⟩] →
      t.sel.count.val = (s.sel.count.val + 2047) % 2048 ∧ t.sel.dir = .backward) ∧
    ∀ x : Selector, x = { s.sel with count := t.sel.count, dir := t.sel.dir, fresh := false } →
      (s.sel.state = .lost ∨ s.sel.state = .homing ∨ s.sel.state = .fault → t = (s.setSel x).arbitrate) ∧
      ∀ (p : PortNo) (d n : Nat), s.sel.target = some p →
        d = min ((x.count.val + 2048 - 64 * p.val) % 2048) ((64 * p.val + 2048 - x.count.val) % 2048) →
        n = (if s.sel.fresh = false ∧ x.dir ≠ s.sel.dir then s.sel.changes + 1 else s.sel.changes) →
        (s.sel.state = .moving → n < 3 → d ≠ 0 → t = (s.setSel { x with changes := n }).arbitrate) ∧
        (s.sel.state = .moving → n < 3 → d = 0 →
          t = (s.setSel { x with changes := n, state := .settling, settleTimer := some 20000000 }).arbitrate) ∧
        (s.sel.state = .moving → 3 ≤ n →
          t = ((s.setSel { x with changes := n, state := .lost, moveTimer := none, settleTimer := none }).heed
            .failure).arbitrate) ∧
        (s.sel.state = .settling → d ≤ 1 → t = (s.setSel x).arbitrate) ∧
        (s.sel.state = .settling → 1 < d →
          t = (s.setSel { x with state := .moving, settleTimer := none }).arbitrate) ∧
        (s.sel.state = .settled → d ≤ 1 → t = (s.setSel x).arbitrate) ∧
        (s.sel.state = .settled → 1 < d → s.eng.state = .held → t = ((s.setSel x).heed .rotation).arbitrate) ∧
        (s.sel.state = .settled → 1 < d → s.eng.state ≠ .held →
          t = ((s.setSel { x with
            state := .moving, changes := 0, moveTimer := some 2000000000, settleTimer := none, fresh := true }).heed
              .disturbed).arbitrate)

/-- ENCODER_ERROR and the three selector timers, by the selector's state: LOST and FAULT stay; a homing attempt fails,
and the second one in a row leads to FAULT; a move fails to LOST with its target, count and direction changes kept; a
SETTLED selector becomes LOST; the settle timer ends the move in SETTLED and reports arrival. The count and the
direction flag never change. An expiry of a timer that does not run changes nothing but what the arbiter may choose
(log entry 3; R57, R63, R64, R65, R68). -/
def Obligations.EncoderErrorAndTimersActByState : Prop :=
  ∀ s : State,
    (s.sel.state = .lost ∨ s.sel.state = .fault → exec .encoderError s = .next s.arbitrate) ∧
    (∀ y : Selector, y = { s.sel with
        state := if s.sel.failures = 0 then .lost else .fault
        homingTimer := none, failures := min 2 (s.sel.failures + 1), pendingTarget := none, target := none } →
      s.sel.state = .homing →
      exec .encoderError s = .next
        ((s.setSel y).heed (if s.sel.pendingTarget.isSome then .failure else .quiet)).arbitrate ∧
      (s.sel.homingTimer.isSome = true → exec .homingTimeout s = .next
        ((s.setSel y).heed (if s.sel.pendingTarget.isSome then .failure else .quiet)).arbitrate)) ∧
    (∀ y : Selector, y = { s.sel with state := .lost, moveTimer := none, settleTimer := none } →
      s.sel.state = .moving ∨ s.sel.state = .settling →
      exec .encoderError s = .next ((s.setSel y).heed .failure).arbitrate ∧
      (s.sel.moveTimer.isSome = true → exec .moveTimeout s = .next ((s.setSel y).heed .failure).arbitrate)) ∧
    (s.sel.state = .settled →
      exec .encoderError s = .next ((s.setSel { s.sel with state := .lost }).heed .lostSettled).arbitrate) ∧
    (s.sel.state = .settling → s.sel.settleTimer.isSome = true →
      exec .settleExpiry s = .next
        ((s.setSel { s.sel with state := .settled, settleTimer := none, moveTimer := none }).heed
          .arrival).arbitrate) ∧
    (¬ (s.sel.homingTimer.isSome = true ∧ s.sel.state = .homing) → exec .homingTimeout s = .next s.arbitrate) ∧
    (¬ (s.sel.moveTimer.isSome = true ∧ (s.sel.state = .moving ∨ s.sel.state = .settling)) →
      exec .moveTimeout s = .next s.arbitrate) ∧
    (¬ (s.sel.settleTimer.isSome = true ∧ s.sel.state = .settling) → exec .settleExpiry s = .next s.arbitrate)

/-- INDEX_EDGE. HOMING: the count becomes 0, the homing timer stops, the failures are forgotten, and a move to the
pending target, or to port 0, begins: straight to SETTLING for port 0. With the count within 2 of 0, and in LOST and
FAULT: no effect on the selector and the test in hand, and the arbiter may choose as after every index edge (log entry
30). A slip: the count becomes 0 and nothing else of the selector, and then the match (log entry 9), the
settle check or the disturbance check is made on it (R58, R60, R64, R66, R67, R70, R71). -/
def Obligations.IndexEdgeActsByState : Prop :=
  ∀ s : State,
    (s.sel.state = .homing → ∀ p : PortNo, p = s.sel.pendingTarget.getD 0 →
      exec .indexEdge s = .next (s.setSel { s.sel with
        count := 0, homingTimer := none, failures := 0, pendingTarget := none, target := some p, changes := 0,
        moveTimer := some 2000000000, settleTimer := if p = 0 then some 20000000 else none,
        state := if p = 0 then .settling else .moving, fresh := true }).arbitrate) ∧
    (s.sel.state = .lost ∨ s.sel.state = .fault → exec .indexEdge s = .next s.arbitrate) ∧
    (s.sel.state ≠ .homing → s.sel.count.val ∈ [2046, 2047, 0, 1, 2] → exec .indexEdge s = .next s.arbitrate) ∧
    (s.sel.count.val ∉ [2046, 2047, 0, 1, 2] → ∀ p : PortNo, s.sel.target = some p →
      (s.sel.state = .moving → p = 0 → exec .indexEdge s = .next
        (s.setSel { s.sel with count := 0, state := .settling, settleTimer := some 20000000 }).arbitrate) ∧
      (s.sel.state = .moving → p ≠ 0 → exec .indexEdge s = .next (s.setSel { s.sel with count := 0 }).arbitrate) ∧
      (s.sel.state = .settling → p = 0 → exec .indexEdge s = .next (s.setSel { s.sel with count := 0 }).arbitrate) ∧
      (s.sel.state = .settling → p ≠ 0 → exec .indexEdge s = .next
        (s.setSel { s.sel with count := 0, state := .moving, settleTimer := none }).arbitrate) ∧
      (s.sel.state = .settled → p = 0 → exec .indexEdge s = .next (s.setSel { s.sel with count := 0 }).arbitrate) ∧
      (s.sel.state = .settled → p ≠ 0 → s.eng.state = .held → exec .indexEdge s = .next
        ((s.setSel { s.sel with count := 0 }).heed .rotation).arbitrate) ∧
      (s.sel.state = .settled → p ≠ 0 → s.eng.state ≠ .held → exec .indexEdge s = .next
        ((s.setSel { s.sel with
          count := 0, state := .moving, changes := 0, moveTimer := some 2000000000, settleTimer := none,
          fresh := true }).heed .disturbed).arbitrate))

/-- HOME: accepted when the selector is LOST or in FAULT, and when it is SETTLED with the engine IDLE or HELD; homing
begins with no pending target and the failure count kept, and a HELD engine is told of the rotation. Otherwise
NOT_ALLOWED and no change (R66, R71, R73). -/
def Obligations.HomeFollowsItsTable : Prop :=
  ∀ (s : State) (c : Client) (tag : Tag), s.takes c → ∃ t, exec (.home c tag) s = .next t ∧
    ∀ ok : Prop, (ok ↔ s.sel.state = .lost ∨ s.sel.state = .fault ∨
        (s.sel.state = .settled ∧ (s.eng.state = .idle ∨ s.eng.state = .held))) →
      (ok → Answered s t c (s.linkAfter c true) 11 tag (.plain .ok) ∧
        t = (((s.setSel { s.sel with
          state := .homing, target := none, pendingTarget := none, moveTimer := none, settleTimer := none,
          homingTimer := some 6000000000 }).heed .rotation).arbitrate).setHw t.hw) ∧
      (¬ ok → Answered s t c (s.linkAfter c true) 11 tag (.plain .notAllowed) ∧ t = s.setHw t.hw)

/-- What a report of the selector does. In POSITION: arrival ends a cancelled or detached test, parks the test while
the hold set is not empty (a re-positioning test at the resume point it had), and otherwise lets it go on at its resume
point, retaking the band when the restart mark is set; positioning failure ends it FAILED SELECTOR, or CANCELLED. While
a block is shot, a disturbance or an encoder error ends the test at once, FAILED DISTURBED or SELECTOR. In HELD with a
test parked within its band, rotation sets the restart mark. Every other report changes nothing (R57, R65, R70, R71,
R78, R86, R87, R158, R161, R162). -/
def Obligations.SelectorReportsReachTheEngine : Prop :=
  ∀ s : State,
    s.heed .quiet = s ∧
    (s.eng.state ≠ .position → s.heed .arrival = s ∧ s.heed .failure = s) ∧
    (s.eng.state.shooting = false → s.heed .disturbed = s) ∧
    (¬ (s.eng.state = .held ∧ (s.eng.resume = some .firstLaser ∨ s.eng.resume = some .nextLaser)) →
      s.heed .rotation = s ∧ (s.eng.state.shooting = false → s.heed .lostSettled = s)) ∧
    (s.eng.state = .held → (s.eng.resume = some .firstLaser ∨ s.eng.resume = some .nextLaser) →
      s.heed .rotation = s.setHold { s.hold with mark := true } ∧
      s.heed .lostSettled = s.setHold { s.hold with mark := true }) ∧
    (∀ e ri, s.queue.running = some e → e.run = some ri →
      (s.eng.state.shooting = true → ri.cancelPending = true →
        s.heed .disturbed = s.endTest .cancelled none Report.none false ∧
        s.heed .lostSettled = s.endTest .cancelled none Report.none false) ∧
      (s.eng.state.shooting = true → ri.cancelPending = false →
        s.heed .disturbed = s.endTest .failed (some .disturbed) Report.none false ∧
        s.heed .lostSettled = s.endTest .failed (some .selector) Report.none false) ∧
      (s.eng.state = .position → ∀ u, u = s.setHold { s.hold with mark := false } →
        (ri.cancelPending = true →
          s.heed .failure = u.endTest .cancelled none Report.none false ∧
          s.heed .arrival = u.endTest .cancelled none Report.none false) ∧
        (ri.cancelPending = false → s.heed .failure = u.endTest .failed (some .selector) Report.none false) ∧
        (ri.cancelPending = false → (∃ c, s.hold.members.at c = true) → s.heed .arrival =
          ((s.setEng { s.eng with
              state := .held, resume := some (s.eng.resume.getD .beforeBand), trigger := none }).setQueue
            { s.queue with
              entries := s.queue.entries.map (fun x =>
                { x with run := x.run.map (fun y => { y with suspended := true }) }) }).setHold
            { s.hold with timer := some 60000000000 }) ∧
        (ri.cancelPending = false → (∀ c, s.hold.members.at c = false) → ∀ v, v =
            (u.setEng { s.eng with resume := none }).setQueue
              { s.queue with
                entries := s.queue.entries.map (fun x =>
                  { x with run := x.run.map (fun y => { y with suspended := false }) }) } →
          (s.eng.resume = none ∨ s.eng.resume = some .beforeBand →
            s.heed .arrival = v.beginBand (if ri.plan.b then .B else .A)) ∧
          (∀ b, s.eng.band = some b → s.eng.resume = some .firstLaser ∨ s.eng.resume = some .nextLaser →
            s.heed .arrival = if s.hold.mark then v.beginBand b else v.beginLaserBlock)))) ∧
    (s.queue.running = none →
      (s.eng.state.shooting = true → s.heed .disturbed = s.endTest .failed (some .disturbed) Report.none false ∧
        s.heed .lostSettled = s.endTest .failed (some .selector) Report.none false) ∧
      (s.eng.state = .position →
        s.heed .arrival = (s.setHold { s.hold with mark := false }).endTest .cancelled none Report.none false ∧
        s.heed .failure =
          (s.setHold { s.hold with mark := false }).endTest .failed (some .selector) Report.none false))

/-! ### Acquisition (chapter 5) -/

/-- The end of a test: the result record is written whole and its port marked unread, the entry leaves, a CONFIRM is
admitted after a DONE test whose findings hold a STEP evaluated on band B only, when the port is claimed and none waits,
the latch drain runs, the working data are discarded with a reserved buffer freed, and the engine goes to IDLE, or to
HELD with the hold timer started. A detached test takes the last step alone (R14, R15, R35, R41, R88, R122; that a test
which ends while it re-positions shows the bands run and the dark values it holds is log entry 38). -/
def Obligations.EndOfTestCarriesOutItsSteps : Prop :=
  ∀ (s : State) (st : Status) (cause : Option Cause) (r : Report) (full : Bool),
    (∀ (u : State) (e : Entry) (ri : RunInfo) (x : ResultRecord), s.queue.running = some e → e.run = some ri →
      x.ticket = e.ticket → x.kind = e.kind → x.status = st → x.cause = cause → x.findings = r.findings.length →
      x.more = r.more → x.tableFull = full → x.time = s.office.clock →
      (∀ b, (x.bands.at b).run = ri.done.has b ∧ (x.bands.at b).dark = s.eng.darks.at b ∧
        (x.bands.at b).endIndex = (if st = .done ∧ ri.done.has b = true then
          (s.eng.traces.at b).map (fun t => t.endIndex) else none) ∧
        (x.bands.at b).baseline = (if st = .done ∧ ri.done.has b = true ∧ e.kind ≠ .baseline .A ∧
          e.kind ≠ .baseline .B then r.baselines.at b else none)) →
      u = (s.setPort e.port { s.port e.port with result := some x, unread := true }).setQueue
        { s.queue with entries := s.queue.entries.filter (fun y => decide (y.run = none)) } →
      ∃ v : State,
        ((st = .done ∧ r.asksConfirm = true ∧ u.queue.findQueued e.port .confirm = none) → ∀ c,
          (s.port e.port).claimant = some c → v = u.setQueue { u.queue with
            entries := u.queue.entries ++
              [{ ticket := u.queue.nextTicket, client := c, port := e.port, kind := .confirm, origin := .analysis,
                 run := none }]
            lastTicket := some u.queue.nextTicket }) ∧
        (¬ (st = .done ∧ r.asksConfirm = true ∧ u.queue.findQueued e.port .confirm = none ∧
          (s.port e.port).claimant.isSome = true) → v = u) ∧
        s.endTest st cause r full = v.drain.discardWork.leaveTest) ∧
    (r.asksConfirm = true ↔ ∃ f ∈ r.findings, f.kind = .step ∧ f.bands = some .bOnly) ∧
    (s.queue.running = none → s.endTest st cause r full = s.discardWork.leaveTest) ∧
    s.discardWork = (s.setEng { s.eng with
      hand := .none, snap := none, band := none, counter := 0, blocksDone := 0, sums := [], accs := [], clips := [],
      darkTotal := 0, darks := ⟨none, none⟩, traces := ⟨none, none⟩, views := ⟨none, none⟩, analysisTimer := none,
      resume := none, trigger := none, sampling := false }).setStore { s.store with
        buffers := Tab.of (fun i => if s.store.buffers.at i = .reserved then .free else s.store.buffers.at i) } ∧
    ((∀ c, s.hold.members.at c = false) → s.leaveTest = s.setEng { s.eng with state := .idle }) ∧
    ((∃ c, s.hold.members.at c = true) → s.eng.state ≠ .held → s.leaveTest =
      (s.setEng { s.eng with state := .held, trigger := none }).setHold { s.hold with timer := some 60000000000 }) ∧
    ((∃ c, s.hold.members.at c = true) → s.eng.state = .held → s.leaveTest = s)

/-- SHOT: the samples of the shot that ends go to the dark total in a dark block, to their points' block sums and clip
flags (at 4095) in a laser block, and nowhere for a shot started while DRAINING from a laser block; the block counter
falls by one; at 0 the block boundary is taken at once, by SHOT and by the boundary's own command alike, and otherwise
the next shot starts, its trigger raised only in ACQUIRE, in a laser block, with the selector SETTLED. A boundary
command that is not this boundary's, and a shot while none is in progress, change nothing (log entries 3, 6; R79, R80,
R84, R85). -/
def Obligations.ShotAddsItsSamples : Prop :=
  ∀ (s : State) (x : Samples),
    (∀ (sn : Snapshot) (b : Band), s.eng.snap = some sn → s.eng.band = some b → s.eng.state.shooting = true →
      1 ≤ s.eng.counter → ∃ a : Engine,
        a = { s.eng with darkTotal := a.darkTotal, sums := a.sums, clips := a.clips } ∧
        (s.eng.kind = .dark → a.darkTotal = s.eng.darkTotal + ((List.range sn.points).map (sampleAt x)).sum ∧
          a.sums = s.eng.sums ∧ a.clips = s.eng.clips) ∧
        (s.eng.kind = .laser → s.eng.sampling = false → a = s.eng) ∧
        (s.eng.kind = .laser → s.eng.sampling = true → a.darkTotal = s.eng.darkTotal ∧
          (∀ i, a.sums.getD i 0 = s.eng.sums.getD i 0 + (if i < sn.points then sampleAt x i else 0)) ∧
          (∀ i, a.clips.getD i false = (s.eng.clips.getD i false || decide (i < sn.points ∧ sampleAt x i = 4095)))) ∧
        (2 ≤ s.eng.counter → exec (.shot x) s = .next (s.setEng { a with
          counter := s.eng.counter - 1
          trigger := if s.eng.state = .acquire ∧ s.eng.kind = .laser ∧ s.sel.state = .settled then s.eng.band else none
          sampling := decide (¬ (s.eng.state = .draining ∧ s.eng.kind = .laser)) })) ∧
        (s.eng.counter = 1 → ∀ t, t = ((s.setEng { a with counter := 0 }).boundary sn b).arbitrate →
          exec (.shot x) s = .next t ∧
          (s.eng.kind = .dark → exec (.darkBlockBoundary x) s = .next t ∧
            exec (.laserBlockBoundary x) s = .next s ∧ exec (.drainedBlockBoundary x) s = .next s) ∧
          (s.eng.kind = .laser → s.eng.state = .draining → exec (.drainedBlockBoundary x) s = .next t ∧
            exec (.darkBlockBoundary x) s = .next s ∧ exec (.laserBlockBoundary x) s = .next s) ∧
          (s.eng.kind = .laser → s.eng.state ≠ .draining → exec (.laserBlockBoundary x) s = .next t ∧
            exec (.darkBlockBoundary x) s = .next s ∧ exec (.drainedBlockBoundary x) s = .next s))) ∧
    (s.eng.state.shooting = false ∨ s.eng.counter = 0 → exec (.shot x) s = .next s) ∧
    (s.eng.state.shooting = false ∨ s.eng.counter ≠ 1 → exec (.darkBlockBoundary x) s = .next s ∧
      exec (.laserBlockBoundary x) s = .next s ∧ exec (.drainedBlockBoundary x) s = .next s)

/-- The boundaries of a dark block and of a drained laser block. Dark: the band's dark value becomes the floor of the
mean dark sample and the dark total 0. Drained: the block sums are discarded, accumulators and blocks done kept. Then
the first that holds: a detached test ends; cancel pending ends the test CANCELLED; the engine in DRAINING enters HELD
with the test suspended before its next laser block; otherwise the first laser block of the band starts, in ACQUIRE. A
band and a laser block begin as R80 says (R79, R80, R81, R84, R85, R159). -/
def Obligations.DarkAndDrainedBoundariesFollowTheirCases : Prop :=
  ∀ (s : State) (sn : Snapshot) (b : Band),
    (∀ v : State, (s.eng.kind = .dark ∧ v = s.setEng { s.eng with
          darks := s.eng.darks.put b (some (s.eng.darkTotal / (256 * sn.points))), darkTotal := 0 }) ∨
        (s.eng.kind = .laser ∧ s.eng.state = .draining ∧ v = s.setEng { s.eng with sums := [] }) →
      (s.queue.running = none → s.boundary sn b = v.endTest .cancelled none Report.none false) ∧
      ∀ e ri, s.queue.running = some e → e.run = some ri →
        (ri.cancelPending = true → s.boundary sn b = v.endTest .cancelled none Report.none false) ∧
        (ri.cancelPending = false → s.eng.state = .draining → s.boundary sn b =
          ((v.setEng { v.eng with
              state := .held, trigger := none
              resume := some (if s.eng.kind = .dark then .firstLaser else .nextLaser) }).setQueue
            { s.queue with
              entries := s.queue.entries.map (fun x =>
                { x with run := x.run.map (fun y => { y with suspended := true }) }) }).setHold
            { s.hold with timer := some 60000000000 }) ∧
        (ri.cancelPending = false → s.eng.state ≠ .draining → s.boundary sn b = v.beginLaserBlock)) ∧
    s.beginLaserBlock = s.setEng { s.eng with
      state := .acquire, kind := .laser, sums := [], counter := 256, sampling := true
      trigger := if s.sel.state = .settled then s.eng.band else none } ∧
    s.beginBand b = s.setEng { s.eng with
      state := .dark, band := some b, kind := .dark, blocksDone := 0, sums := [], accs := [], clips := [],
      darkTotal := 0, darks := s.eng.darks.put b none, counter := 256, trigger := none, sampling := true }

/-- The boundary of a laser block in ACQUIRE: the block sums are added to the accumulators and cleared, and blocks done
rises by one. Cancel pending ends the test CANCELLED, after the band has joined bands done if its blocks are complete.
A complete band joins bands done and is converted point by point; band A follows band B when the plan holds it and the
owner's window is open, and leaves the plan when it is not; otherwise ANALYSE begins, with the analysis timer at 2.5 µs
for each point of each band done and, for a test that is compared, the baselines of the bands done read. Otherwise the
next laser block starts. A detached test ends with no result (R52, R82, R83, R89, R95, R103, R108). -/
def Obligations.LaserBoundaryFollowsItsCases : Prop :=
  (∀ (s : State) (sn : Snapshot) (b : Band), s.eng.kind = .laser → s.eng.state ≠ .draining → s.queue.running = none →
    s.boundary sn b = s.endTest .cancelled none Report.none false ∧ s.boundary sn b = s.discardWork.leaveTest) ∧
  ∀ (s : State) (sn : Snapshot) (b : Band) (e : Entry) (ri : RunInfo), s.eng.kind = .laser → s.eng.state ≠ .draining →
    s.queue.running = some e → e.run = some ri →
    ∃ (accs : List Nat) (tr : Trace), (∀ i, accs.getD i 0 = s.eng.accs.getD i 0 + s.eng.sums.getD i 0) ∧
      (tr.points.length = sn.points ∧ tr.dark = (s.eng.darks.at b).getD 0 ∧
        tr.endIndex = endIndexOf tr.points sn.i0 sn.points ∧
        ∀ i, i < sn.points → tr.points[i]? = some
          (convertPoint sn.averages sn.floorMargin tr.dark (accs.getD i 0) (s.eng.clips.getD i false))) ∧
      ∀ (v w : State) (done : BandSet), done = ri.done.insert b →
        v = s.setEng { s.eng with accs := accs, sums := [], blocksDone := s.eng.blocksDone + 1 } →
        w = v.setQueue { s.queue with
          entries := s.queue.entries.map (fun x =>
            { x with run := x.run.map (fun y => { y with done := y.done.insert b }) }) } →
        (ri.cancelPending = true → s.eng.blocksDone + 1 < 2 ^ sn.averages / 256 →
          s.boundary sn b = v.endTest .cancelled none Report.none false) ∧
        (ri.cancelPending = true → 2 ^ sn.averages / 256 ≤ s.eng.blocksDone + 1 →
          s.boundary sn b = w.endTest .cancelled none Report.none false) ∧
        (ri.cancelPending = false → s.eng.blocksDone + 1 < 2 ^ sn.averages / 256 →
          s.boundary sn b = v.beginLaserBlock) ∧
        (ri.cancelPending = false → 2 ^ sn.averages / 256 ≤ s.eng.blocksDone + 1 →
          ∀ z : State, z = w.setEng { w.eng with traces := s.eng.traces.put b (some tr) } →
            (b = .B → ri.plan.a = true → s.ownerWindowOpen e.port = true → s.boundary sn b = z.beginBand .A) ∧
            (b = .A ∨ ri.plan.a = false ∨ s.ownerWindowOpen e.port = false → ∀ y : State,
              y = (if b = .B ∧ ri.plan.a = true then z.setQueue { z.queue with
                  entries := z.queue.entries.map (fun x =>
                    { x with run := x.run.map (fun r => { r with plan := { r.plan with a := false } }) }) }
                else z) →
              s.boundary sn b = y.setEng { z.eng with
                state := .analyse, trigger := none, analysisTimer := some (2500 * sn.points * done.size)
                views := if e.kind = .baseline .A ∨ e.kind = .baseline .B then ⟨none, none⟩ else
                  ⟨if done.a then some (s.store.view (slotOf e.port .A)) else none,
                    if done.b then some (s.store.view (slotOf e.port .B)) else none⟩ }))

/-- ANALYSIS_END: the test completes. A ROUTINE, URGENT or CONFIRM has its findings folded into the fault table, with
the port's unseen-findings flag set if the fold announced an entry; a BASELINE has its capture placed in the commit
queue; the last-trace pair is replaced by the test's traces; then the test ends DONE, and the arbiter may choose. A
detached test ends with no result (R90, R92, R129, R137, R147). Without a running analysis timer nothing changes (log
entry 3). -/
def Obligations.AnalysisEndCompletesTheTest : Prop :=
  ∀ s : State,
    (s.eng.state ≠ .analyse ∨ s.eng.analysisTimer = none → exec .analysisEnd s = .next s) ∧
    (s.eng.state = .analyse → s.eng.analysisTimer.isSome = true → s.queue.running = none →
      exec .analysisEnd s = .next (s.endTest .cancelled none Report.none false).arbitrate) ∧
    (s.eng.state = .analyse → s.eng.analysisTimer.isSome = true → ∀ e sn pair, s.queue.running = some e →
      s.eng.snap = some sn →
      pair = { port := e.port, ticket := e.ticket, kind := e.kind, points := sn.points, period := sn.period,
               pulse := sn.pulse, averages := sn.averages, groupIndex := sn.groupIndex,
               traces := s.eng.traces : LastPair } →
      ((∀ b, e.kind ≠ .baseline b) → ∀ r f, r = analyse sn e.kind e.port s.eng.traces s.eng.views s.faults →
        f = foldTest s.faults e.port (s.port e.port).profile.matchDistance sn.spacing e.ticket r →
        exec .analysisEnd s = .next
          ((((s.setFaults f.table).setPort e.port
            { s.port e.port with unseen := (s.port e.port).unseen || f.announced }).setEng
            { s.eng with lastPair := some pair }).endTest .done none r f.full).arbitrate) ∧
      (∀ b tr i c, e.kind = .baseline b → s.eng.traces.at b = some tr → s.store.reservedBuffer = some i →
        c = { port := e.port, band := b, points := sn.points, period := sn.period, pulse := sn.pulse,
              averages := sn.averages, groupIndex := sn.groupIndex, endIndex := tr.endIndex, dark := tr.dark,
              ticket := e.ticket, time := s.office.clock, levels := tr.points : Capture } →
        exec .analysisEnd s = .next
          (((s.setStore (({ s.store with buffers := s.store.buffers.put i (.held c) } : Store).place (slotOf e.port b)
            (.write i))).setEng { s.eng with lastPair := some pair }).endTest .done none Report.none false).arbitrate))

/-- GET TRACE of either source from the claimant: BAD_VALUE for an unknown source or band or a point count outside 1 to
60; UNKNOWN where there is no such trace or the slot reads EMPTY; BAD_VALUE for a first index at or above P; otherwise
the descriptive part and min(count, P - first) points, two in a word. It changes no state (R93, R94, R155; that both
command rows may carry source BASELINE is log entry 24). Half a trace point word holds below-floor, clip and level +
4096; an odd last point is followed by all ones; kinds and bands are sent by their places (R168, R175). -/
def Obligations.GetTraceServesPairAndBaseline : Prop :=
  (∀ x : TracePoint, -4096 ≤ x.level → x.level ≤ 3071 →
    (pointHalf x).getLsbD 14 = x.below ∧ (pointHalf x).getLsbD 13 = x.clip ∧
      (((pointHalf x).extractLsb' 0 13).toNat : Int) = x.level + 4096) ∧
  (∀ xs : List TracePoint, (pointWords xs).length = (xs.length + 1) / 2 ∧
    ∀ j w x, (pointWords xs)[j]? = some w → xs[2 * j]? = some x → w.extractLsb' 15 15 = pointHalf x ∧
      (∀ y, xs[2 * j + 1]? = some y → w.extractLsb' 0 15 = pointHalf y) ∧
      (xs.length = 2 * j + 1 → w.extractLsb' 0 15 = BitVec.allOnes 15)) ∧
  ([Kind.routine, .urgent, .baseline .A, .confirm].map Kind.code = List.range 4 ∧
    Kind.code (.baseline .B) = 2 ∧ [Band.A, .B].map bandCode = List.range 2 ∧
    ∀ k b, Kind.band k = some b ↔ k = .baseline b) ∧
  ∀ (s : State) (c : Client) (tag : Tag) (source port band first count : Payload) (p : PortNo), s.takes c →
    port.toNat = p.val → (s.port p).claimant = some c →
    ∃ (t u : State) (x y : Response), exec (.getTrace c tag source port band first count) s = .next t ∧
      t = s.setHw t.hw ∧ Answered s t c (s.linkAfter c false) 12 tag x ∧
      exec (.getTraceBaseline c tag port band first count) s = .next u ∧
      u = s.setHw u.hw ∧ Answered s u c (s.linkAfter c false) 12 tag y ∧ (source.toNat = 1 → x = y) ∧
      (2 ≤ band.toNat ∨ count.toNat = 0 ∨ 60 < count.toNat → x = .plain .badValue ∧ y = .plain .badValue) ∧
      (2 ≤ source.toNat → x = .plain .badValue) ∧
      ∀ b, (b = .A ∧ band.toNat = 0 ∨ b = .B ∧ band.toNat = 1) → 1 ≤ count.toNat → count.toNat ≤ 60 →
        (source.toNat = 0 →
          ((s.eng.lastPair = none ∨ (∃ q, s.eng.lastPair = some q ∧ (q.port ≠ p ∨ q.traces.at b = none))) →
            x = .plain .unknown) ∧
          ∀ q tr, s.eng.lastPair = some q → q.port = p → q.traces.at b = some tr →
            (q.points ≤ first.toNat → x = .plain .badValue) ∧
            (∀ n, first.toNat < q.points → n = min count.toNat (q.points - first.toNat) →
              x = { code := .ok
                    body := [num p.val, num q.ticket, num q.kind.code, optNum (q.kind.band.map bandCode), num q.points,
                        num q.period, num q.pulse, num q.averages, num q.groupIndex, num tr.endIndex, num tr.dark,
                        num n] ++
                      pointWords ((List.range n).map (fun j => pointAt tr.points (first.toNat + j))) })) ∧
        (s.store.read (slotOf p b) = none → y = .plain .unknown) ∧
        ∀ k, s.store.read (slotOf p b) = some k →
          (k.points ≤ first.toNat → y = .plain .badValue) ∧
          (∀ n, first.toNat < k.points → n = min count.toNat (k.points - first.toNat) →
            y = { code := .ok
                  body := [num k.port.val, num (bandCode k.band), num k.points, num k.period, num k.pulse,
                      num k.averages, num k.groupIndex, num k.endIndex, num k.dark, num k.ticket, optNum k.time,
                      flag (s.store.commits.any (fun e => decide (e.slot = slotOf p b))), num n] ++
                    pointWords ((List.range n).map (fun j => pointAt k.levels (first.toNat + j))) })

/-! ### Trace arithmetic, findings and faults (chapters 6 to 8) -/

/-- The logarithm lg: 256 times the place of the highest bit plus the eight bits that follow it, never falling; the
level of a point of a band with k from 8 to 16 lies between -256 k and 3071, is -256 k for a clamped point, and two
points of equal mean signal above dark, whatever their k, have equal levels and equal below-floor flags (R96 to R100).
The dead-zone end is four points past the pulse width rounded up to whole sample periods (R102); the spacing is
K × 2^p / G, the distance i × S / 100,000 and the loss x × 1505 / 256, each rounded half up (R104, R105, R106). -/
def Obligations.LevelsFollowTheMeanSignal : Prop :=
  (∀ s e m : Nat, 2 ^ e ≤ s → s < 2 ^ (e + 1) →
    (8 ≤ e → m = s / 2 ^ (e - 8) - 256) → (e < 8 → m = s * 2 ^ (8 - e) - 256) → m ≤ 255 ∧ lg s = 256 * e + m) ∧
  (∀ s t : Nat, 1 ≤ s → s ≤ t → lg s ≤ lg t) ∧
  (∀ (k f dark sum : Nat) (clip : Bool) (p : TracePoint), 8 ≤ k → k ≤ 16 → sum ≤ 4095 * 2 ^ k →
    p = convertPoint k f dark sum clip →
    -256 * (k : Int) ≤ p.level ∧ p.level ≤ 3071 ∧ p.clip = clip ∧
      (p.below = true ↔ (sum : Int) - 2 ^ k * dark < 2 ^ k * f) ∧
      (sum ≤ 2 ^ k * dark → p.level = -256 * (k : Int)) ∧
      (2 ^ k * dark < sum → p.level = (lg (sum - 2 ^ k * dark) : Int) - 256 * k)) ∧
  (∀ (k l f dark sum dark' sum' : Nat) (clip : Bool), 2 ^ k * dark < sum → 2 ^ l * dark' < sum' →
    (sum - 2 ^ k * dark) * 2 ^ l = (sum' - 2 ^ l * dark') * 2 ^ k →
    convertPoint k f dark sum clip = convertPoint l f dark' sum' clip) ∧
  (∀ code p ns : Nat, [10, 30, 100, 300, 1000, 3000, 10000][code]? = some ns →
    ∃ n, deadZoneEnd code p = n + 1 + 4 ∧ n * (5 * 2 ^ p) < 2 * ns ∧ 2 * ns ≤ (n + 1) * (5 * 2 ^ p)) ∧
  (∀ g p : Nat, 0 < g → 2 * g * spacing g p ≤ 2 * (37474057300 * 2 ^ p) + g ∧
    2 * (37474057300 * 2 ^ p) + g < 2 * g * (spacing g p + 1)) ∧
  (∀ sp i : Nat, 100000 * distance sp i ≤ i * sp + 50000 ∧ i * sp + 50000 < 100000 * (distance sp i + 1)) ∧
  (∀ x : Int, 256 * mdB x ≤ x * 1505 + 128 ∧ x * 1505 + 128 < 256 * (mdB x + 1))

/-- The end index E of a trace is the smallest index from i0 on at which eight below-floor points start that all lie
below P, and P if there is none; it lies from i0 to P - 8, or is P (R103). -/
def Obligations.EndIndexIsTheFirstDarkRun : Prop :=
  ∀ (points : List TracePoint) (i0 P E : Nat) (dark : Nat → Prop), points.length = P →
    (∀ i, dark i ↔ ∀ j, j < 8 → ∃ q, points[i + j]? = some q ∧ q.below = true) → E = endIndexOf points i0 P →
    ((∃ i, i0 ≤ i ∧ dark i) → i0 ≤ E ∧ dark E ∧ E + 8 ≤ P ∧ ∀ i, i0 ≤ i → dark i → E ≤ i) ∧
    ((∀ i, i0 ≤ i → ¬ dark i) → E = P)

/-- The findings of a test: none, no miss count and no reclassification without a primary band; otherwise the first
eight in R121's order, none twice, MORE when there were more; the break, if there is one, first and at the analysed
limit, the others no breaks, in increasing order of location and, behind a break, all nearer than it; a CONFIRM finds
no steps, counts no misses and alone reclassifies. A band has a break of its own exactly when E_live + 8 < E_b. The
runs, the band break, the smoothed deficit and the scan are as chapter 7 words them; before the limit of eight the
findings are the break, the runs it does not hide and no run of the primary band overlaps, and the steps, weighed
against band A; a CONFIRM reclassifies every unclassified STEP of the port and of the same spacing that band A can be
read at (R109 to R119, R121 to R124; that only the test's own break hides runs is log entry 34; that the definitions of
the limits hold also where the other band's break lies beyond the primary band's light end is log entry 28). -/
def Obligations.FindingsListHasItsForm : Prop :=
  ∀ (sn : Snapshot) (kind : Kind) (p : PortNo) (traces : PerBand (Option Trace)) (views : PerBand (Option View))
    (table : List FaultEntry) (r : Report), 1 ≤ sn.smoothing → 1 ≤ sn.confirmLength →
    r = analyse sn kind p traces views table →
    (∀ b, r.baselines.at b = (views.at b).map (fun v => v.matchWith sn)) ∧
    ((∀ b v, views.at b = some v → (v.matchWith sn = .matching → traces.at b = none)) →
      r.findings = [] ∧ r.missCount = false ∧ r.reclass = [] ∧ r.hasBreak = false ∧ r.more = false) ∧
    r.findings.length ≤ 8 ∧ (r.more = true → r.findings.length = 8) ∧
    (r.hasBreak = true → ∃ f rest, r.findings = f :: rest ∧ f.kind = .brk ∧ f.location = r.limit ∧
      (∀ g ∈ rest, g.kind ≠ .brk ∧ g.location < r.limit) ∧
      rest.Pairwise (fun g h => g.location ≤ h.location)) ∧
    (r.hasBreak = false → (∀ g ∈ r.findings, g.kind ≠ .brk) ∧
      r.findings.Pairwise (fun g h => g.location ≤ h.location)) ∧
    (kind = .confirm → r.missCount = false ∧ ∀ g ∈ r.findings, g.kind = .brk ∨ g.kind = .reflection) ∧
    (kind ≠ .confirm → r.reclass = []) ∧
    (∀ x : BandInput, (x.bandBreak sn).isSome = true ↔ x.live.endIndex + 8 < x.base.endIndex) ∧
    (∀ (x : BandInput) (brk : Option BreakAt), x.RunsAreMaximalStretches sn ∧ x.BreakLiesAtRunOrLiveEnd sn ∧
      x.SmoothedDeficitIsHeldMean sn brk ∧ x.StepsAreScannedFromI0 sn brk) ∧ ScanTakesTheFirstOnset sn ∧
    ∀ (x : PerBand (Option BandInput)) (b : Band) (main : BandInput) (brk : Option BreakAt),
      (∀ c y, x.at c = some y ↔ ∃ t k, traces.at c = some t ∧ views.at c = some (.valid k) ∧
        k.points = sn.points ∧ k.period = sn.period ∧ k.pulse = sn.pulse ∧ y = { live := t, base := k }) →
      (b = .B ∨ (b = .A ∧ x.b = none)) → x.at b = some main →
      brk = (match main.bandBreak sn with
        | some k => some k
        | none => (x.at b.other).bind (fun y => y.bandBreak sn)) →
      r.hasBreak = brk.isSome ∧ r.missCount = decide (kind ≠ .confirm) ∧
      r.limit = (match brk with | some k => k.location | none => min main.live.endIndex main.base.endIndex) ∧
      (∃ all : List Finding, r.findings = all.take 8 ∧ (r.more = true ↔ 8 < all.length) ∧
        all.Pairwise Finding.precedes ∧ ∀ g, g ∈ all ↔
        (∃ k, brk = some k ∧ g = {
          kind := .brk, location := k.location, distance := distance sn.spacing k.location, lossPoint := none,
          loss := none, height := k.run.map (fun q => { tu := q.height, mdB := mdB q.height }),
          saturated := k.run.map (fun q => q.saturated), bands := none }) ∨
        (∃ q, ¬ q.isHidden brk ∧
          (q ∈ main.runs sn ∨ ∃ y, x.at b.other = some y ∧ q ∈ y.runs sn ∧
            ∀ m ∈ main.runs sn, ∀ i ∈ q.points, i ∉ m.points) ∧
          g = {
            kind := .reflection, location := q.start, distance := distance sn.spacing q.start, lossPoint := none,
            loss := none, height := some { tu := q.height, mdB := mdB q.height }, saturated := some q.saturated,
            bands := none }) ∨
        (kind ≠ .confirm ∧ ∃ st ∈ main.steps sn brk, IsStepFinding sn x b brk st g)) ∧
      (kind = .confirm → ∀ i k, (i, k) ∈ r.reclass ↔ ∃ e ∈ table, e.id = i ∧ e.port = p ∧ e.det.kind = .step ∧
        e.det.bands = some .bOnly ∧ e.spacing = sn.spacing ∧ ∃ lp loss ref v, e.det.lossPoint = some lp ∧
          e.det.loss = some loss ∧ main.smoothedAt sn brk sn.i0 = some ref ∧ main.smoothedAt sn brk lp = some v ∧
          k = (if (sn.bendMargin : Int) ≤ loss - mdB (v - ref) then .bend else .step))

/-- One finding folded in: with candidates (entries of the port and class within the match distance that no earlier
finding of the fold took), the nearest one, and of two as near the one with the lower id, is re-found in place: it is
ACTIVE, has the finding's fields and the test's spacing and ticket, one hit more and no miss, and loses its
acknowledgement if its state, kind or bands evaluated changed. Without one, a new entry with the lowest free id joins as
the newest, after the oldest CLEARED entry has left a full table; a full table with no CLEARED entry stores nothing and
sets TABLE_FULL (R128, R130 to R133, R137; that a NEW or CLEARED entry which changes its kind as it is re-found becomes
ACTIVE too is log entry 40). The fold of a test takes the findings in list order, then counts misses if
the miss count flag is set, then applies the reclassifications (R129). A miss: every entry of the port that no finding
took, that is not CLEARED, and that lies below the analysed limit, or is a BREAK where the test has none, gains one; at
its kind's limit it is CLEARED and announced (R133 to R135, R137). A reclassification: the named entry, if it is a STEP
of band B only, gets its kind, bands evaluated both, and is announced (R136, R137). -/
def Obligations.FoldTakesAFinding : Prop :=
  (∀ (table : List FaultEntry) (p : PortNo) (near sp ticket : Nat) (r : Report),
    foldTest table p near sp ticket r =
      r.reclass.foldl Fold.reclassify
        (if r.missCount then
          (r.findings.foldl (Fold.take p near sp ticket)
            { table := table, touched := [], full := false, announced := false }).countMisses p sp r.limit r.hasBreak
        else
          r.findings.foldl (Fold.take p near sp ticket)
            { table := table, touched := [], full := false, announced := false })) ∧
  (∀ (x y : Fold) (p : PortNo) (sp limit : Nat) (hasBreak : Bool) (missed last : FaultEntry → Prop),
    y = x.countMisses p sp limit hasBreak →
    (∀ e, missed e ↔ e.port = p ∧ e.id ∉ x.touched ∧ e.state ≠ .cleared ∧
      ((e.det.kind = .brk ∧ hasBreak = false) ∨
        (e.spacing = sp ∧ e.det.location < limit) ∨
        (e.spacing ≠ sp ∧ e.det.distance < (limit * sp + 50000) / 100000))) →
    (∀ e, last e ↔ missed e ∧ (if e.det.kind = .brk then 1 else 3) ≤ e.misses + 1) →
    y.touched = x.touched ∧ y.full = x.full ∧ (y.announced = true ↔ x.announced = true ∨ ∃ e ∈ x.table, last e) ∧
    y.table.length = x.table.length ∧ ∀ (i : Nat) (e : FaultEntry), x.table[i]? = some e →
      (¬ missed e → y.table[i]? = some e) ∧
      (missed e → ¬ last e → y.table[i]? = some { e with misses := e.misses + 1 }) ∧
      (last e → y.table[i]? = some { e with misses := e.misses + 1, state := .cleared, acked := false })) ∧
  (∀ (x y : Fold) (id : Nat) (k : FaultKind) (named : FaultEntry → Prop), y = x.reclassify (id, k) →
    (∀ e, named e ↔ e.id = id ∧ e.det.kind = .step ∧ e.det.bands = some .bOnly) →
    y.touched = x.touched ∧ y.full = x.full ∧ (y.announced = true ↔ x.announced = true ∨ ∃ e ∈ x.table, named e) ∧
    y.table.length = x.table.length ∧ ∀ (i : Nat) (e : FaultEntry), x.table[i]? = some e →
      (¬ named e → y.table[i]? = some e) ∧
      (named e → y.table[i]? = some
        { e with det := { e.det with kind := k, bands := some .both }, acked := false })) ∧
  ∀ (p : PortNo) (matchDistance sp ticket : Nat) (x y : Fold) (f : Finding) (cand : FaultEntry → Prop),
    (x.table.map (fun e => e.id)).Nodup → (∀ e ∈ x.table, e.id < 64) →
    (∀ e, cand e ↔ e ∈ x.table ∧ e.port = p ∧
      (e.det.kind = f.kind ∨ (e.det.kind = .step ∧ f.kind = .bend) ∨ (e.det.kind = .bend ∧ f.kind = .step)) ∧
      e.det.distance ≤ f.distance + matchDistance ∧ f.distance ≤ e.det.distance + matchDistance ∧ e.id ∉ x.touched) →
    y = Fold.take p matchDistance sp ticket x f →
    (∀ (e : FaultEntry) (news : Bool), cand e → (∀ g, cand g → g ≠ e →
        distanceDiff e.det.distance f.distance < distanceDiff g.det.distance f.distance ∨
        (distanceDiff e.det.distance f.distance = distanceDiff g.det.distance f.distance ∧ e.id < g.id)) →
      news = decide (e.state ≠ .active ∨ e.det.kind ≠ f.kind ∨ e.det.bands ≠ f.bands) →
      y = { x with
        table := x.table.map (fun g => if g.id = e.id then
          { e with det := f, spacing := sp, lastTicket := ticket, hits := min (e.hits + 1) 65535, misses := 0,
                   state := .active, acked := e.acked && !news } else g)
        touched := e.id :: x.touched, announced := x.announced || news }) ∧
    ((∀ e, ¬ cand e) →
      (∀ table id, (x.table.length < 64 ∧ table = x.table ∨
          64 ≤ x.table.length ∧ ∃ older old newer, x.table = older ++ old :: newer ∧ old.state = .cleared ∧
            (∀ g ∈ older, g.state ≠ .cleared) ∧ table = older ++ newer) →
        (∀ g ∈ table, g.id ≠ id) → (∀ j, j < id → ∃ g ∈ table, g.id = j) → table.length < 64 →
        y = { x with
          table := table ++ [{ id := id, port := p, state := .new, det := f, spacing := sp, firstTicket := ticket,
                               lastTicket := ticket, hits := 1, misses := 0, acked := false }]
          touched := id :: x.touched, announced := true }) ∧
      (64 ≤ x.table.length → (∀ g ∈ x.table, g.state ≠ .cleared) → y = { x with full := true }))

/-- GET FINDINGS from the claimant: BAD_VALUE above 63; otherwise the port's count, the table's count, the position, and
at most six entries of the port from that position in creation order; the port's unseen-findings flag is cleared and
nothing else (R138). ACK FINDING sets the acknowledged flag of the named entry of the port; DELETE FINDING removes it if
it is CLEARED and is NOT_ALLOWED otherwise; both answer UNKNOWN for an id no entry of the port holds (R139, R140). A
fault entry is sent as the nine words of R175, with its descriptor, index and height words field by field. -/
def Obligations.FindingRequestsActOnTheTable : Prop :=
  (∀ e : FaultEntry, ∃ descriptor index height : Payload,
    e.body = [descriptor, index, num e.spacing, num e.det.distance, optNum (e.det.loss.map Int.toNat), height,
      num e.firstTicket, num e.lastTicket, num e.hits] ∧
    (e.id < 64 → (descriptor.extractLsb' 24 6).toNat = e.id) ∧ (descriptor.extractLsb' 19 5).toNat = e.port.val ∧
    (descriptor.extractLsb' 17 2).toNat =
      (match e.det.kind with | .brk => 0 | .reflection => 1 | .step => 2 | .bend => 3) ∧
    (descriptor.extractLsb' 15 2).toNat = (match e.state with | .new => 0 | .active => 1 | .cleared => 2) ∧
    (descriptor.extractLsb' 13 2).toNat =
      (match e.det.bands with | some .bOnly => 0 | some .aOnly => 1 | some .both => 2 | none => 3) ∧
    (descriptor.extractLsb' 11 2).toNat =
      (match e.det.saturated with | some false => 0 | some true => 1 | none => 3) ∧
    (e.misses ≤ 3 → (descriptor.extractLsb' 9 2).toNat = e.misses) ∧ descriptor.getLsbD 8 = e.acked ∧
    descriptor.extractLsb' 0 8 = 0#8 ∧
    (e.det.location < 16384 → (index.extractLsb' 15 15).toNat = e.det.location) ∧
    (e.det.lossPoint = none → (index.extractLsb' 0 15).toNat = 32767) ∧
    (∀ n, e.det.lossPoint = some n → n < 16384 → (index.extractLsb' 0 15).toNat = n) ∧
    (e.det.height = none → height = BitVec.allOnes 30) ∧
    (∀ h, e.det.height = some h → 0 ≤ h.tu → h.tu < 16384 → 0 ≤ h.mdB → h.mdB < 65536 →
      ((height.extractLsb' 16 14).toNat : Int) = h.tu ∧ ((height.extractLsb' 0 16).toNat : Int) = h.mdB)) ∧
  ∀ (s : State) (c : Client) (tag : Tag) (port v : Payload) (p : PortNo) (own : List FaultEntry), s.takes c →
    port.toNat = p.val → (s.port p).claimant = some c → own = s.faults.filter (fun e => decide (e.port = p)) →
    ∃ t u w, exec (.getFindings c tag port v) s = .next t ∧ exec (.ackFinding c tag port v) s = .next u ∧
      exec (.deleteFinding c tag port v) s = .next w ∧
      (64 ≤ v.toNat →
        Answered s t c (s.linkAfter c false) 13 tag (.plain .badValue) ∧ t = s.setHw t.hw ∧
        Answered s u c (s.linkAfter c false) 14 tag (.plain .badValue) ∧ u = s.setHw u.hw ∧
        Answered s w c (s.linkAfter c false) 15 tag (.plain .badValue) ∧ w = s.setHw w.hw) ∧
      (v.toNat < 64 →
        Answered s t c (s.linkAfter c false) 13 tag
          { code := .ok
            body := [num own.length, num s.faults.length, num v.toNat] ++
              (((own.drop v.toNat).take 6).map (fun e => e.body)).flatten } ∧
        t = (s.setPort p { s.port p with unseen := false }).setHw t.hw ∧
        ((∀ e ∈ s.faults, e.id = v.toNat → e.port ≠ p) →
          Answered s u c (s.linkAfter c false) 14 tag (.plain .unknown) ∧ u = s.setHw u.hw ∧
          Answered s w c (s.linkAfter c false) 15 tag (.plain .unknown) ∧ w = s.setHw w.hw) ∧
        ((s.faults.map (fun e => e.id)).Nodup → ∀ e ∈ s.faults, e.id = v.toNat → e.port = p →
          Answered s u c (s.linkAfter c false) 14 tag (.plain .ok) ∧
          u = (s.setFaults (s.faults.map (fun g => if g.id = e.id then { e with acked := true } else g))).setHw u.hw ∧
          (e.state ≠ .cleared →
            Answered s w c (s.linkAfter c false) 15 tag (.plain .notAllowed) ∧ w = s.setHw w.hw) ∧
          (e.state = .cleared →
            Answered s w c (s.linkAfter c false) 15 tag (.plain .ok) ∧
            w = (s.setFaults (s.faults.filter (fun g => decide (g.id ≠ e.id)))).setHw w.hw)))

/-! ### The baseline store (chapter 9) -/

/-- BASELINE INFO: one picture of the queue's counts and the port's two slots, each with the read copy's header, the
stored state and ticket, two commit entry places and whether the copy fits the profile; it changes nothing (R153; how
an absent header is sent is log entry 11). A read is served from the QUEUED entry for the slot, otherwise from the
WRITING one, otherwise from the memory (R152). ERASE BASELINE: BAD_VALUE for a band it does not know; OK and no change
where the slot reads EMPTY; in place of a QUEUED WRITE, whose buffer becomes free; FULL; or appended, and begun at once
in an empty queue (R148, R150, R154). A header is sent field by field, an entry place as operation and state. A WRITE or
ERASE is placed in place of a QUEUED entry for the slot, which keeps its position and whose buffer becomes free; behind
a WRITING one, or where there is none, as the newest; in an empty queue its programming begins, for 80 ms or 20 ms
(R148, R149, R150). -/
def Obligations.BaselineInfoAndEraseActOnTheStore : Prop :=
  (headerBody none = [BitVec.allOnes 30] ∧ ∀ k : Capture, headerBody (some k) =
    [1#30, num k.port.val, (match k.band with | .A => 0#30 | .B => 1#30), num k.points, num k.period, num k.pulse,
      num k.averages, num k.groupIndex, num k.endIndex, num k.dark, num k.ticket, optNum k.time]) ∧
  (∀ (es : List Commit) (place : Option Commit → List Payload),
    (∀ e, place e = (match e with
      | some e => [(match e.op with | .write _ => 0#30 | .erase => 1#30), flag e.writing]
      | none => [BitVec.allOnes 30, BitVec.allOnes 30])) →
    commitPlaces es = place es[0]? ++ place es[1]?) ∧
  (∀ (st : Store) (slot : Fin 64) (op : CommitOp),
    (∀ old, st.commits.find? (fun e => decide (e.slot = slot) && !e.writing) = some old → st.place slot op = { st with
      buffers := (match old.op with | .write j => st.buffers.put j .free | .erase => st.buffers)
      commits := st.commits.map (fun e => if e.slot = slot ∧ e.writing = false then { e with op := op } else e) }) ∧
    (∀ e rest, st.commits = e :: rest → e.writing = true → (∀ f ∈ rest, f.slot = slot → f.writing = true) →
      st.place slot op = { st with commits := st.commits ++ [{ slot := slot, op := op, writing := false }] }) ∧
    (st.commits = [] → st.place slot op = { st with
      commits := [{ slot := slot, op := op, writing := true }], slots := st.slots.put slot none
      programming := some (if op = .erase then 20000000 else 80000000) })) ∧
  ∀ (s : State) (c : Client) (tag : Tag) (port band : Payload) (p : PortNo), s.takes c → port.toNat = p.val →
    (s.port p).claimant = some c →
    (∃ t, exec (.baselineInfo c tag port) s = .next t ∧ t = s.setHw t.hw ∧ ∃ info : Band → List Payload,
      Answered s t c (s.linkAfter c false) 16 tag
        { code := .ok
          body := [num s.store.commits.length, num s.store.freeCount] ++ info .A ++ info .B } ∧
      ∀ b stored, stored = s.store.slots.at (slotOf p b) → info b =
        [flag (s.store.read (slotOf p b)).isSome] ++ headerBody (s.store.read (slotOf p b)) ++
          [flag stored.isSome, optNum (stored.map (fun k => k.ticket))] ++
          commitPlaces (s.store.commits.filter (fun e => decide (e.slot = slotOf p b))) ++
          [flag (match s.store.read (slotOf p b) with
            | some k => decide (k.points = (s.port p).profile.points ∧ k.period = (s.port p).profile.period ∧
                k.pulse = (s.port p).profile.pulse)
            | none => false)]) ∧
    (∀ slot, StoreInv s →
      (∀ e ∈ s.store.commits, e.slot = slot → (e.writing = false ∨ ∀ f ∈ s.store.commits, f.slot = slot → f = e) →
        (e.op = .erase → s.store.read slot = none) ∧
        (∀ i k, e.op = .write i → s.store.buffers.at i = .held k → s.store.read slot = some k)) ∧
      ((∀ e ∈ s.store.commits, e.slot ≠ slot) → s.store.read slot = s.store.slots.at slot)) ∧
    ∃ t, exec (.eraseBaseline c tag port band) s = .next t ∧
      (2 ≤ band.toNat → Answered s t c (s.linkAfter c false) 17 tag (.plain .badValue) ∧ t = s.setHw t.hw) ∧
      ∀ b slot, (b = .A ∧ band.toNat = 0 ∨ b = .B ∧ band.toNat = 1) → slot = slotOf p b →
        (s.store.read slot = none → Answered s t c (s.linkAfter c false) 17 tag (.plain .ok) ∧ t = s.setHw t.hw) ∧
        (s.store.read slot ≠ none → StoreInv s →
          (∀ e i, e ∈ s.store.commits → e.slot = slot → e.writing = false → e.op = .write i →
            Answered s t c (s.linkAfter c false) 17 tag (.plain .ok) ∧
            t = ((s.setStore { s.store with
              commits := s.store.commits.map (fun f =>
                if f.slot = slot ∧ f.writing = false then { f with op := .erase } else f)
              buffers := s.store.buffers.put i .free }).arbitrate).setHw t.hw) ∧
          ((∀ e ∈ s.store.commits, e.slot = slot → e.writing = true) →
            (4 ≤ s.store.occupancy →
              Answered s t c (s.linkAfter c false) 17 tag (.plain .full) ∧ t = s.setHw t.hw) ∧
            (s.store.occupancy < 4 → Answered s t c (s.linkAfter c false) 17 tag (.plain .ok) ∧
              (s.store.commits ≠ [] → t = ((s.setStore { s.store with
                commits := s.store.commits ++ [{ slot := slot, op := .erase, writing := false }] }).arbitrate).setHw
                  t.hw) ∧
              (s.store.commits = [] → t = ((s.setStore { s.store with
                commits := [{ slot := slot, op := .erase, writing := true }]
                slots := s.store.slots.put slot none
                programming := some 20000000 }).arbitrate).setHw t.hw))))

/-- PROGRAMMING_END: the verify passes when the memory returns the header and every level record of the held buffer,
for an ERASE a header reading EMPTY, and fails otherwise. The slot of the WRITING head then holds the buffer's capture,
or is EMPTY for an ERASE or a failed verify; the entry leaves, its buffer is free, and the next entry begins: WRITING,
its slot's header invalidated, for 80 ms or 20 ms. A failed verify sets STORE for the client that claims the slot's
port (R146, R149, R150, R151; what the memory returns is the command's operand, log entry 23; that the header is gone
at the event at which programming begins is log entry 14). Without a WRITING head nothing changes (log entry 3). -/
def Obligations.ProgrammingEndTakesTheHead : Prop :=
  ∀ (s : State) (r : ReadBack),
    ((∀ e rest, s.store.commits = e :: rest → e.writing = false) → exec (.programmingEnd r) s = .next s) ∧
    ∀ (e : Commit) (rest : List Commit) (st : Store) (x : Option Capture) (ok : Prop),
      s.store.commits = e :: rest → e.writing = true → StoreInv s →
      (∀ i, e.op = .write i → (ok ↔ ∃ k, s.store.buffers.at i = .held k ∧ r = .valid k)) →
      (e.op = .erase → (ok ↔ r = .empty)) →
      (¬ ok → x = none) → (ok → e.op = .erase → x = none) →
      (∀ i k, ok → e.op = .write i → s.store.buffers.at i = .held k → x = some k) →
      st = { s.store with
        slots := s.store.slots.put e.slot x
        buffers := (match e.op with | .write i => s.store.buffers.put i .free | .erase => s.store.buffers)
        commits := rest, programming := none } →
      ∃ (z : Store) (y : Highway), exec (.programmingEnd r) s = .next ((s.setStore z).setHw y).arbitrate ∧
        (rest = [] → z = st) ∧
        (∀ f more, rest = f :: more → z = { st with
          commits := { f with writing := true } :: more
          slots := st.slots.put f.slot none
          programming := some (if f.op = .erase then 20000000 else 80000000) }) ∧
        (ok ∨ (s.port ⟨e.slot.val / 2, by omega⟩).claimant = none → y = s.hw) ∧
        (∀ c, ¬ ok → (s.port ⟨e.slot.val / 2, by omega⟩).claimant = some c →
          y = { s.hw with links := s.hw.links.put c { s.link c with store := true } })

/-! ### Maintenance hold (chapter 10) -/

/-- HOLD: the client joins the set, and a member changes nothing. The first member brings the engine toward HELD: from
IDLE at once, from DARK and ACQUIRE to DRAINING with the trigger off, and not at once from any other state. RESUME: a
client not in the set changes nothing, and a member leaves it; the last one returns a draining engine to its block, a
laser block from its first shot, and a HELD engine to IDLE or to POSITION with its test's position request. Members and
Granted are taken afterwards (R157 to R161; that the restarted block's first shot starts at the RESUME is log entry 7).
The re-drive that a hold has deferred: a SETTLED selector more than 1 count from its target position moves to it, and
any other is left (R71). HOLD_TIMER_EXPIRY stops the timer and sets the restart mark for a test parked within its band
(R162); with the timer stopped it changes nothing (log entry 3). -/
def Obligations.HoldAndResumeFollowTheirTables : Prop :=
  (∀ (x : Selector) (far : Prop), (far ↔ x.state = .settled ∧ ∃ q : PortNo, x.target = some q ∧
      1 < min ((x.count.val + 2048 - 64 * q.val) % 2048) ((64 * q.val + 2048 - x.count.val) % 2048)) →
    (far → x.deferredMove = { x with
      state := .moving, changes := 0, moveTimer := some 2000000000, settleTimer := none, fresh := true }) ∧
    (¬ far → x.deferredMove = x)) ∧
  ∀ (s : State) (c : Client) (tag : Tag),
    (s.takes c → ∃ t u, exec (.hold c tag) s = .next t ∧ exec (.resume c tag) s = .next u ∧
      (∃ m n : Nat, m = (([0, 1, 2, 3] : List Client).filter (fun d => t.hold.members.at d)).length ∧
        n = (([0, 1, 2, 3] : List Client).filter (fun d => u.hold.members.at d)).length ∧
        Answered s t c (s.linkAfter c true) 18 tag
          { code := .ok, body := [num m, flag (decide (t.eng.state = .held))] } ∧
        Answered s u c (s.linkAfter c true) 19 tag
          { code := .ok, body := [num n, flag (decide (u.eng.state = .held))] }) ∧
      (s.hold.members.at c = true → t = s.setHw t.hw) ∧
      (s.hold.members.at c = false → u = s.setHw u.hw ∧
        ∀ v, v = s.setHold { s.hold with members := s.hold.members.put c true } →
          ((∃ d, s.hold.members.at d = true) → t = v.setHw t.hw) ∧
          ((∀ d, s.hold.members.at d = false) →
            (s.eng.state = .idle → t = ((v.setEng { s.eng with state := .held, trigger := none }).setHold
              { v.hold with timer := some 60000000000 }).setHw t.hw) ∧
            (s.eng.state = .dark ∨ s.eng.state = .acquire →
              t = (v.setEng { s.eng with state := .draining, trigger := none }).setHw t.hw) ∧
            (s.eng.state = .position ∨ s.eng.state = .analyse ∨ s.eng.state = .draining ∨ s.eng.state = .held →
              t = v.setHw t.hw))) ∧
      (s.hold.members.at c = true → ∀ v, v = s.setHold { s.hold with members := s.hold.members.put c false } →
        ((∃ d, d ≠ c ∧ s.hold.members.at d = true) → u = v.arbitrate.setHw u.hw) ∧
        ((∀ d, d ≠ c → s.hold.members.at d = false) →
          (s.eng.state = .position ∨ s.eng.state = .analyse ∨ s.eng.state = .idle ∨ s.eng.state = .dark ∨
            s.eng.state = .acquire → u = v.arbitrate.setHw u.hw) ∧
          (s.eng.state = .draining → s.eng.kind = .dark →
            u = ((v.setEng { s.eng with state := .dark }).arbitrate).setHw u.hw) ∧
          (s.eng.state = .draining → s.eng.kind = .laser → u = ((v.setEng { s.eng with
            state := .acquire, sums := [], counter := 256, sampling := true
            trigger := if s.sel.state = .settled then s.eng.band else none }).arbitrate).setHw u.hw) ∧
          (s.eng.state = .held → ∀ z, z = (v.setHold { v.hold with timer := none }).setSel s.sel.deferredMove →
            (s.queue.running = none → u = (((z.setEng { s.eng with state := .idle }).setHold
              { v.hold with timer := none, mark := false }).arbitrate).setHw u.hw) ∧
            (∀ e, s.queue.running = some e →
              u = (((z.setEng { s.eng with state := .position }).requestPosition e.port).arbitrate).setHw u.hw)))) ) ∧
    (s.hold.timer = none → exec .holdTimerExpiry s = .next s) ∧
    (s.hold.timer.isSome = true → exec .holdTimerExpiry s = .next (s.setHold { s.hold with
      timer := none
      mark := s.hold.mark || decide (s.eng.state = .held ∧
        (s.eng.resume = some .firstLaser ∨ s.eng.resume = some .nextLaser)) }))

/-! ### Invariants -/

/-- Every step keeps the queue's form and the tenancy: no queue entry, fault entry, set latch or set flag of a port
without its claimant (R2, R19, R20, R21, R33, R35). It keeps one QUEUED entry per port and kind, no QUEUED ROUTINE
beside a QUEUED URGENT of the port, the share of 12, and a latch only while an URGENT of its port is RUNNING or the
queue is full (R23, R24, R39, R40). And no choice is left untaken: with none that waits, the arbiter changes nothing,
and every step leaves none waiting, so the arbiter's chance after an event that makes no choice possible is no change
(R30). -/
def Obligations.EveryStepKeepsQueueAndTenancy : Prop :=
  ∀ s t : State, step s = .next t → (QueueInv s → QueueInv t) ∧ (TenancyInv s → TenancyInv t) ∧
    (QueueInv s → TenancyInv s → WaitingInv s → WaitingInv t) ∧ (ChoiceInv s → s.arbitrate = s) ∧
    (QueueInv s → TenancyInv s → OfficeInv s → ChoiceInv s → ChoiceInv t ∧ t.arbitrate = t)

/-- Either band's laser emits only while the engine is in ACQUIRE and the selector is SETTLED, and the selector is
SETTLED at the running test's port while a block is shot: every step keeps both (R72, R85). The engine is HELD or
DRAINING only while the hold set is not empty: every step keeps that (R158, R159, R160). -/
def Obligations.EveryStepKeepsTheLightSafe : Prop :=
  ∀ s t : State, step s = .next t → (LaserInv s → LaserInv t) ∧ (QueueInv s → LightInv s → LightInv t) ∧
    (HoldInv s → HoldInv t)

/-- Every step keeps the commit queue's form: only its head is WRITING and its slot EMPTY in the memory, no slot has two
QUEUED entries, every WRITE holds a buffer of its own, and occupancy stays within four (R145, R146, R149). -/
def Obligations.EveryStepKeepsTheStore : Prop :=
  ∀ s t : State, step s = .next t →
    (StoreInv s → OccupancyInv s → StoreInv t) ∧ (QueueInv s → OccupancyInv s → OccupancyInv t)

/-- Every step keeps the fault table's form, the clock and the windows in their ranges, and every profile legal (R9,
R43, R46, R126, R127, R128, R133). -/
def Obligations.EveryStepKeepsFaultsClockAndProfiles : Prop :=
  ∀ s t : State, step s = .next t →
    (FaultsInv s → FaultsInv t) ∧ (OfficeInv s → OfficeInv t) ∧ (ProfilesInv s → ProfilesInv t)

/-- The state after reset meets every invariant. -/
def Obligations.ResetMeetsTheInvariants : Prop :=
  QueueInv State.reset ∧ TenancyInv State.reset ∧ WaitingInv State.reset ∧ ChoiceInv State.reset ∧
    LaserInv State.reset ∧ LightInv State.reset ∧ HoldInv State.reset ∧ StoreInv State.reset ∧
    OccupancyInv State.reset ∧ FaultsInv State.reset ∧ OfficeInv State.reset ∧ ProfilesInv State.reset
end

