-- ==== Sys2Proof/Laws/Analysis.lean ====
section
/-! SUPPORT. What the functions of the analysis (chapter 7) and of the fold (8.2 to 8.4) can do: the stretches of
reflective points, the held deficits, the step scan, the order of the findings. -/

namespace Sys2Proof.Machine

/-! ### Reflective runs -/

/-- The maximal stretches of `p` over the indexes from `c` to below `e`: each is a stretch of consecutive indexes that
`p` holds on, bounded on both sides by an end of the range or an index `p` fails on; all indexes `p` holds on are in
one; they stand in rising order. -/
def AreStretches (p : Nat → Bool) (c e : Nat) (res : List (List Nat)) : Prop :=
  (∀ s ∈ res, ∃ u k, 1 ≤ k ∧ s = List.range' u k ∧ c ≤ u ∧ u + k ≤ e ∧ (∀ i ∈ s, p i = true) ∧
    (u + k < e → p (u + k) = false) ∧ (c < u → p (u - 1) = false)) ∧
  (∀ i, c ≤ i → i < e → p i = true → ∃ s ∈ res, i ∈ s) ∧
  res.Pairwise (fun r q => ∀ i ∈ r, ∀ j ∈ q, i < j)

theorem stretches_spec (p : Nat → Bool) (n b c : Nat) (hc : c ≤ b) (hp : ∀ i, c ≤ i → i < b → p i = true) :
    AreStretches p c (b + n) (stretches p (List.range' b n) (List.range' c (b - c)).reverse) := by
  induction n generalizing b c with
  | zero =>
    simp only [List.range'_zero, stretches, List.isEmpty_reverse, List.reverse_reverse, Nat.add_zero]
    split
    · rename_i h
      have : b = c := by simp [List.isEmpty_iff] at h; omega
      subst this
      exact ⟨by simp, by intro i h1 h2; omega, .nil⟩
    · rename_i h
      have h : 1 ≤ b - c := by simp [List.isEmpty_iff] at h; omega
      refine ⟨?_, ?_, List.pairwise_singleton _ _⟩
      · intro s hs
        simp only [List.mem_singleton] at hs
        subst hs
        refine ⟨c, b - c, h, rfl, Nat.le_refl _, by omega, ?_, by omega, by omega⟩
        intro i hi
        simp [List.mem_range'_1] at hi
        exact hp i (by omega) (by omega)
      · intro i h1 h2 _
        exact ⟨_, List.mem_singleton.mpr rfl, by simp [List.mem_range'_1]; omega⟩
  | succ n ih =>
    rw [List.range'_succ, stretches]
    have he : b + (n + 1) = b + 1 + n := by omega
    rw [he]
    split
    · rename_i hb
      have : b :: (List.range' c (b - c)).reverse = (List.range' c (b + 1 - c)).reverse := by
        rw [Nat.succ_sub hc, List.range'_concat]
        simp
        omega
      rw [this]
      refine ih (b + 1) c (by omega) ?_
      intro i h1 h2
      rcases Nat.lt_or_ge i b with h | h
      · exact hp i h1 h
      · rw [show i = b by omega]
        exact hb
    · rename_i hb
      have hb : p b = false := by simpa using hb
      have key := ih (b + 1) (b + 1) (Nat.le_refl _) (by intro i h1 h2; omega)
      simp only [Nat.sub_self, List.range'_zero, List.reverse_nil] at key
      obtain ⟨k1, k2, k3⟩ := key
      have k1' : ∀ s ∈ stretches p (List.range' (b + 1) n) [], ∃ u k, 1 ≤ k ∧ s = List.range' u k ∧ c ≤ u ∧
          u + k ≤ b + 1 + n ∧ (∀ i ∈ s, p i = true) ∧ (u + k < b + 1 + n → p (u + k) = false) ∧
          (c < u → p (u - 1) = false) := by
        intro s hs
        obtain ⟨u, k, a1, a2, a3, a4, a5, a6, a7⟩ := k1 s hs
        refine ⟨u, k, a1, a2, by omega, a4, a5, a6, fun _ => ?_⟩
        rcases Nat.eq_or_lt_of_le a3 with h | h
        · rw [← h]
          exact hb
        · exact a7 h
      split
      · rename_i h
        have : b = c := by simp [List.isEmpty_iff] at h; omega
        subst this
        refine ⟨k1', ?_, k3⟩
        intro i h1 h2 h3
        rcases Nat.eq_or_lt_of_le h1 with h | h
        · subst h
          simp [hb] at h3
        · exact k2 i h h2 h3
      · rename_i h
        have h : 1 ≤ b - c := by simp [List.isEmpty_iff] at h; omega
        rw [List.reverse_reverse]
        refine ⟨?_, ?_, ?_⟩
        · intro s hs
          rcases List.mem_cons.mp hs with rfl | hs
          · refine ⟨c, b - c, h, rfl, Nat.le_refl _, by omega, ?_, ?_, by omega⟩
            · intro i hi
              simp [List.mem_range'_1] at hi
              exact hp i (by omega) (by omega)
            · intro _
              rw [show c + (b - c) = b by omega]
              exact hb
          · exact k1' s hs
        · intro i h1 h2 h3
          rcases Nat.lt_trichotomy i b with h' | h' | h'
          · exact ⟨_, List.mem_cons_self, by simp [List.mem_range'_1]; omega⟩
          · subst h'
            simp [hb] at h3
          · obtain ⟨s, hs, hi⟩ := k2 i h' h2 h3
            exact ⟨s, List.mem_cons_of_mem _ hs, hi⟩
        · refine List.pairwise_cons.mpr ⟨?_, k3⟩
          intro s hs i hi j hj
          obtain ⟨u, k, a1, rfl, a3, a4, -⟩ := k1 s hs
          simp [List.mem_range'_1] at hi hj
          omega

/-- The indexes below `n` from `a` to below `m`, in order. -/
theorem filter_range_eq_range' (n a m : Nat) :
    (List.range n).filter (fun i => decide (a ≤ i) && decide (i < m)) = List.range' a (min n m - a) := by
  induction n with
  | zero => simp
  | succ n ih =>
    rw [List.range_succ, List.filter_append, ih]
    by_cases h : a ≤ n ∧ n < m
    · rw [show min (n + 1) m - a = (n - a) + 1 by omega, List.range'_concat, show min n m - a = n - a by omega]
      simp [h.1, h.2]
    · rw [List.filter_singleton, show (decide (a ≤ n) && decide (n < m)) = false by simpa using h]
      rcases Nat.lt_or_ge n a with h' | h'
      · rw [show min (n + 1) m - a = 0 by omega, show min n m - a = 0 by omega]
        rfl
      · rw [show min (n + 1) m - a = min n m - a by omega]
        simp

/-- The reflection range is one range of consecutive indexes (R113). -/
theorem BandInput.reflectionRange_eq (x : BandInput) (sn : Snapshot) :
    x.reflectionRange sn = List.range' sn.i0 (min sn.points (x.lightEnd + 8) - sn.i0) := by
  rw [← filter_range_eq_range']
  unfold BandInput.reflectionRange
  congr 1
  funext i
  rw [decide_eq_decide.mpr (show i ≤ x.lightEnd + 7 ↔ i < x.lightEnd + 8 by omega)]

/-- The runs of a band are made of the stretches of its reflection range (R113). -/
theorem BandInput.runs_spec (x : BandInput) (sn : Snapshot) :
    ∃ res, x.runs sn = res.map x.toRun ∧
      AreStretches (fun i => decide ((sn.reflectionThreshold : Int) ≤ x.excess i)) sn.i0
        (max sn.i0 (min sn.points (x.lightEnd + 8))) res := by
  have := stretches_spec (fun i => decide ((sn.reflectionThreshold : Int) ≤ x.excess i))
    (min sn.points (x.lightEnd + 8) - sn.i0) sn.i0 sn.i0 (Nat.le_refl _) (by intro i h1 h2; omega)
  rw [show sn.i0 + (min sn.points (x.lightEnd + 8) - sn.i0) = max sn.i0 (min sn.points (x.lightEnd + 8)) by omega,
    ← BandInput.reflectionRange_eq] at this
  simp only [Nat.sub_self, List.range'_zero, List.reverse_nil] at this
  exact ⟨_, rfl, this⟩

/-- A point lies in a run exactly when it is reflective in the reflection range (R113, R115). -/
theorem BandInput.mem_runs_points (x : BandInput) (sn : Snapshot) (i : Nat) :
    (∃ r ∈ x.runs sn, i ∈ r.points) ↔ x.isReflective sn i := by
  obtain ⟨res, h, h1, h2, -⟩ := x.runs_spec sn
  rw [h]
  constructor
  · rintro ⟨r, hr, hi⟩
    obtain ⟨s, hs, rfl⟩ := List.mem_map.mp hr
    have hi : i ∈ s := hi
    obtain ⟨u, k, a1, a2, a3, a4, a5, -⟩ := h1 s hs
    have hp := a5 i hi
    rw [a2] at hi
    simp only [List.mem_range'_1] at hi
    refine ⟨by omega, by omega, ?_, of_decide_eq_true hp⟩
    show i ≤ x.lightEnd + 7
    omega
  · rintro ⟨a1, a2, a3, a4⟩
    have a3 : i ≤ x.lightEnd + 7 := a3
    obtain ⟨s, hs, hi⟩ := h2 i a1 (by omega) (decide_eq_true a4)
    exact ⟨_, List.mem_map.mpr ⟨s, hs, rfl⟩, hi⟩

/-- The running maximum over a list is at least its start and every member, and is one of them. -/
theorem foldl_max_spec (f : Nat → Int) (l : List Nat) (m : Int) :
    m ≤ l.foldl (fun m i => max m (f i)) m ∧ (∀ i ∈ l, f i ≤ l.foldl (fun m i => max m (f i)) m) ∧
      (l.foldl (fun m i => max m (f i)) m = m ∨ ∃ i ∈ l, l.foldl (fun m i => max m (f i)) m = f i) := by
  induction l generalizing m with
  | nil => exact ⟨Int.le_refl _, by simp, .inl rfl⟩
  | cons a l ih =>
    obtain ⟨h1, h2, h3⟩ := ih (max m (f a))
    refine ⟨by simp only [List.foldl_cons]; omega, ?_, ?_⟩
    · intro i hi
      rcases List.mem_cons.mp hi with rfl | hi
      · simp only [List.foldl_cons]; omega
      · exact h2 i hi
    · rcases h3 with h3 | ⟨i, hi, h3⟩
      · simp only [List.foldl_cons, h3]
        rcases Int.le_total m (f a) with h | h
        · exact .inr ⟨a, List.mem_cons_self, by omega⟩
        · exact .inl (by omega)
      · exact .inr ⟨i, List.mem_cons_of_mem _ hi, h3⟩

/-- The height of a run is the largest excess over its points (R113). -/
theorem BandInput.toRun_height (x : BandInput) (s : List Nat) (hs : s ≠ []) :
    (∃ i ∈ s, (x.toRun s).height = x.excess i) ∧ ∀ i ∈ s, x.excess i ≤ (x.toRun s).height := by
  obtain ⟨a, l, rfl⟩ := List.exists_cons_of_ne_nil hs
  obtain ⟨-, h2, h3⟩ := foldl_max_spec x.excess (a :: l) (x.excess a)
  refine ⟨?_, h2⟩
  rcases h3 with h3 | h3
  · exact ⟨a, List.mem_cons_self, h3⟩
  · exact h3

/-! ### The step scan -/

/-- The held deficits over a range, when `dv` follows their recurrence (R115). -/
theorem heldDeficits_range' (masked : Nat → Bool) (raw dv : Nat → Int) (n b : Nat) (last : Int)
    (h : ∀ i, b ≤ i → dv i = if masked i then (if i = b then last else dv (i - 1)) else raw i) :
    heldDeficits masked raw (List.range' b n) last = (List.range' b n).map dv := by
  induction n generalizing b last with
  | zero => rfl
  | succ n ih =>
    rw [List.range'_succ, List.map_cons]
    have hb := h b (Nat.le_refl _)
    simp only [if_true] at hb
    unfold heldDeficits
    simp only
    rw [← hb, ih (b + 1) (dv b)]
    intro i hi
    have := h i (by omega)
    rw [if_neg (show ¬ i = b by omega)] at this
    rw [this]
    by_cases he : i = b + 1
    · subst he
      simp
    · simp [he]

/-- What a confirming stretch is (R117). -/
theorem confirmed_iff (ds : Nat → Option Int) (sn : Snapshot) (ref : Int) (o : Nat) :
    confirmed ds sn ref o = true ↔
      ∀ j, j < sn.confirmLength → ∃ v, ds (o + j) = some v ∧ (sn.stepThreshold : Int) ≤ v - ref := by
  simp only [confirmed, List.all_eq_true, List.mem_range]
  refine forall₂_congr fun j _ => ?_
  cases ds (o + j) <;> simp

/-- Without a confirming stretch from the scan position on there is no step (R117). -/
theorem stepScan_none (ds : Nat → Option Int) (sn : Snapshot) (n o : Nat) (ref : Int)
    (h : ∀ a, o ≤ a → confirmed ds sn ref a = false) : stepScan ds sn n o ref = [] := by
  induction n generalizing o with
  | zero => rfl
  | succ n ih =>
    rw [stepScan, h o (Nat.le_refl _)]
    exact ih (o + 1) (fun a ha => h a (by omega))

/-- The scan goes on to the first confirming stretch (R117). -/
theorem stepScan_skip (ds : Nat → Option Int) (sn : Snapshot) (k n o : Nat) (ref : Int)
    (h : ∀ a, o ≤ a → a < o + k → confirmed ds sn ref a = false) :
    stepScan ds sn (n + k) o ref = stepScan ds sn n (o + k) ref := by
  induction k generalizing o with
  | zero => rfl
  | succ k ih =>
    rw [← Nat.add_assoc, stepScan, h o (Nat.le_refl _) (by omega)]
    simp only [Bool.false_eq_true, if_false]
    rw [ih (o + 1) (fun a h1 h2 => h a (by omega) (by omega)), show o + 1 + k = o + (k + 1) by omega]

/-- The scan limit is the smaller of the two end indexes, and not beyond the test's break (R112). -/
theorem BandInput.scanLimit_eq (x : BandInput) (brk : Option BreakAt) : x.scanLimit brk = x.limitBefore brk := by
  cases brk <;> rfl

/-- A masked point is reflective, or clipped live or in the baseline (R115). -/
theorem BandInput.masked_iff (x : BandInput) (sn : Snapshot) (i : Nat) :
    x.masked (x.runs sn) i = true ↔ x.isMasked sn i := by
  simp only [BandInput.masked, Bool.or_eq_true, BandInput.isMasked, List.any_eq_true, List.contains_iff_mem]
  rw [x.mem_runs_points sn i, or_assoc]

/-! ### The order of the findings -/

/-- Placing a finding adds it and keeps the others (R121). -/
theorem mem_insertFinding (f g : Finding) (l : List Finding) : g ∈ insertFinding f l ↔ g = f ∨ g ∈ l := by
  induction l with
  | nil => simp [insertFinding]
  | cons a l ih =>
    simp only [insertFinding]
    split
    · simp only [List.mem_cons, ih]
      exact or_left_comm
    · simp only [List.mem_cons]

/-- Ordering keeps the findings (R121). -/
theorem mem_orderFindings (g : Finding) (l : List Finding) : g ∈ orderFindings l ↔ g ∈ l := by
  have h : ∀ (l acc : List Finding),
      g ∈ l.foldl (fun acc f => insertFinding f acc) acc ↔ g ∈ acc ∨ g ∈ l := by
    intro l
    induction l with
    | nil => simp
    | cons a l ih =>
      intro acc
      rw [List.foldl_cons, ih, mem_insertFinding, List.mem_cons, or_comm (a := g = a), or_assoc]
  exact (h l []).trans (by simp)

/-- A finding placed behind those nearer than it, and behind those at its location that stand in `Q` to it, keeps the
order (R121). -/
theorem insertFinding_pairwise (Q : Finding → Finding → Prop) (f : Finding) (l : List Finding)
    (h : l.Pairwise (fun g k => g.location < k.location ∨ (g.location = k.location ∧ Q g k)))
    (hf : ∀ g ∈ l, g.location = f.location → Q g f) :
    (insertFinding f l).Pairwise (fun g k => g.location < k.location ∨ (g.location = k.location ∧ Q g k)) := by
  induction l with
  | nil => exact List.pairwise_singleton _ _
  | cons a l ih =>
    have ⟨h1, h2⟩ := List.pairwise_cons.mp h
    simp only [insertFinding]
    split
    · rename_i hl
      refine List.pairwise_cons.mpr ⟨?_, ih h2 (fun g hg => hf g (List.mem_cons_of_mem _ hg))⟩
      intro g hg
      rcases (mem_insertFinding f g l).mp hg with rfl | hg
      · exact (Nat.lt_or_eq_of_le hl).imp_right (fun e => ⟨e, hf a List.mem_cons_self e⟩)
      · exact h1 g hg
    · rename_i hl
      refine List.pairwise_cons.mpr ⟨?_, h⟩
      intro g hg
      rcases List.mem_cons.mp hg with rfl | hg
      · exact .inl (by omega)
      · rcases h1 g hg with h | h <;> exact .inl (by omega)

/-- Ordered findings stand in rising order of location, and two at one location in the order they came in, so in any
relation `Q` that the findings of one location stood in (R121). -/
theorem orderFindings_pairwise (Q : Finding → Finding → Prop) (l : List Finding)
    (hl : l.Pairwise (fun g k => g.location = k.location → Q g k)) :
    (orderFindings l).Pairwise (fun g k => g.location < k.location ∨ (g.location = k.location ∧ Q g k)) := by
  have h : ∀ (l acc : List Finding), l.Pairwise (fun g k => g.location = k.location → Q g k) →
      (∀ g ∈ acc, ∀ f ∈ l, g.location = f.location → Q g f) →
      acc.Pairwise (fun g k => g.location < k.location ∨ (g.location = k.location ∧ Q g k)) →
      (l.foldl (fun acc f => insertFinding f acc) acc).Pairwise
        (fun g k => g.location < k.location ∨ (g.location = k.location ∧ Q g k)) := by
    intro l
    induction l with
    | nil => exact fun _ _ _ h => h
    | cons a l ih =>
      intro acc h1 h2 h3
      have ⟨h4, h5⟩ := List.pairwise_cons.mp h1
      refine ih _ h5 ?_ (insertFinding_pairwise Q a acc h3 (fun g hg => h2 g hg a List.mem_cons_self))
      intro g hg f hf
      rcases (mem_insertFinding a g acc).mp hg with rfl | hg
      · exact h4 f hf
      · exact h2 g hg f (List.mem_cons_of_mem _ hf)
  exact h l [] hl (by simp) .nil

/-! ### The fold -/

/-- The entries a test misses (R134, R135). -/
theorem isMissed_iff (p : PortNo) (sp limit : Nat) (hasBreak : Bool) (touched : List Nat) (e : FaultEntry) :
    isMissed p sp limit hasBreak touched e = true ↔ e.port = p ∧ e.id ∉ touched ∧ e.state ≠ .cleared ∧
      ((e.det.kind = .brk ∧ hasBreak = false) ∨ (e.spacing = sp ∧ e.det.location < limit) ∨
        (e.spacing ≠ sp ∧ e.det.distance < distance sp limit)) := by
  simp only [isMissed, inRange]
  by_cases hk : e.det.kind = .brk ∧ hasBreak = false
  · rw [if_pos hk]
    simp [hk, and_assoc]
  · rw [if_neg hk]
    by_cases hs : e.spacing = sp <;> simp [hs, hk, and_assoc]

/-- An entry one miss before its kind's limit is CLEARED, any other counts the miss (R133). -/
theorem FaultEntry.miss_spec (e : FaultEntry) :
    (missLimit e.det.kind ≤ e.misses + 1 → e.miss = { e with misses := e.misses + 1, state := .cleared, acked := false }) ∧
      (¬ missLimit e.det.kind ≤ e.misses + 1 → e.miss = { e with misses := e.misses + 1 }) :=
  ⟨fun h => if_pos h, fun h => if_neg h⟩

end Sys2Proof.Machine
end

