-- ==== Sys2Proof/Laws/State.lean ====
section
/-! SUPPORT. One lemma per part of the state and per replacement of one part, and the same for a client's link and a
port's record. -/

namespace Sys2Proof.Machine

@[simp] theorem State.setHw_hw (s : State) (x : Highway) : (s.setHw x).hw = x := rfl
@[simp] theorem State.setHw_ports (s : State) (x : Highway) : (s.setHw x).ports = s.ports := rfl
@[simp] theorem State.setHw_queue (s : State) (x : Highway) : (s.setHw x).queue = s.queue := rfl
@[simp] theorem State.setHw_office (s : State) (x : Highway) : (s.setHw x).office = s.office := rfl
@[simp] theorem State.setHw_sel (s : State) (x : Highway) : (s.setHw x).sel = s.sel := rfl
@[simp] theorem State.setHw_eng (s : State) (x : Highway) : (s.setHw x).eng = s.eng := rfl
@[simp] theorem State.setHw_faults (s : State) (x : Highway) : (s.setHw x).faults = s.faults := rfl
@[simp] theorem State.setHw_store (s : State) (x : Highway) : (s.setHw x).store = s.store := rfl
@[simp] theorem State.setHw_hold (s : State) (x : Highway) : (s.setHw x).hold = s.hold := rfl
@[simp] theorem State.setHw_pending (s : State) (x : Highway) : (s.setHw x).pending = s.pending := rfl

@[simp] theorem State.setPorts_hw (s : State) (x : Tab PortRecord 32) : (s.setPorts x).hw = s.hw := rfl
@[simp] theorem State.setPorts_ports (s : State) (x : Tab PortRecord 32) : (s.setPorts x).ports = x := rfl
@[simp] theorem State.setPorts_queue (s : State) (x : Tab PortRecord 32) : (s.setPorts x).queue = s.queue := rfl
@[simp] theorem State.setPorts_office (s : State) (x : Tab PortRecord 32) : (s.setPorts x).office = s.office := rfl
@[simp] theorem State.setPorts_sel (s : State) (x : Tab PortRecord 32) : (s.setPorts x).sel = s.sel := rfl
@[simp] theorem State.setPorts_eng (s : State) (x : Tab PortRecord 32) : (s.setPorts x).eng = s.eng := rfl
@[simp] theorem State.setPorts_faults (s : State) (x : Tab PortRecord 32) : (s.setPorts x).faults = s.faults := rfl
@[simp] theorem State.setPorts_store (s : State) (x : Tab PortRecord 32) : (s.setPorts x).store = s.store := rfl
@[simp] theorem State.setPorts_hold (s : State) (x : Tab PortRecord 32) : (s.setPorts x).hold = s.hold := rfl
@[simp] theorem State.setPorts_pending (s : State) (x : Tab PortRecord 32) : (s.setPorts x).pending = s.pending := rfl

@[simp] theorem State.setQueue_hw (s : State) (x : TestQueue) : (s.setQueue x).hw = s.hw := rfl
@[simp] theorem State.setQueue_ports (s : State) (x : TestQueue) : (s.setQueue x).ports = s.ports := rfl
@[simp] theorem State.setQueue_queue (s : State) (x : TestQueue) : (s.setQueue x).queue = x := rfl
@[simp] theorem State.setQueue_office (s : State) (x : TestQueue) : (s.setQueue x).office = s.office := rfl
@[simp] theorem State.setQueue_sel (s : State) (x : TestQueue) : (s.setQueue x).sel = s.sel := rfl
@[simp] theorem State.setQueue_eng (s : State) (x : TestQueue) : (s.setQueue x).eng = s.eng := rfl
@[simp] theorem State.setQueue_faults (s : State) (x : TestQueue) : (s.setQueue x).faults = s.faults := rfl
@[simp] theorem State.setQueue_store (s : State) (x : TestQueue) : (s.setQueue x).store = s.store := rfl
@[simp] theorem State.setQueue_hold (s : State) (x : TestQueue) : (s.setQueue x).hold = s.hold := rfl
@[simp] theorem State.setQueue_pending (s : State) (x : TestQueue) : (s.setQueue x).pending = s.pending := rfl

@[simp] theorem State.setOffice_hw (s : State) (x : Office) : (s.setOffice x).hw = s.hw := rfl
@[simp] theorem State.setOffice_ports (s : State) (x : Office) : (s.setOffice x).ports = s.ports := rfl
@[simp] theorem State.setOffice_queue (s : State) (x : Office) : (s.setOffice x).queue = s.queue := rfl
@[simp] theorem State.setOffice_office (s : State) (x : Office) : (s.setOffice x).office = x := rfl
@[simp] theorem State.setOffice_sel (s : State) (x : Office) : (s.setOffice x).sel = s.sel := rfl
@[simp] theorem State.setOffice_eng (s : State) (x : Office) : (s.setOffice x).eng = s.eng := rfl
@[simp] theorem State.setOffice_faults (s : State) (x : Office) : (s.setOffice x).faults = s.faults := rfl
@[simp] theorem State.setOffice_store (s : State) (x : Office) : (s.setOffice x).store = s.store := rfl
@[simp] theorem State.setOffice_hold (s : State) (x : Office) : (s.setOffice x).hold = s.hold := rfl
@[simp] theorem State.setOffice_pending (s : State) (x : Office) : (s.setOffice x).pending = s.pending := rfl

@[simp] theorem State.setSel_hw (s : State) (x : Selector) : (s.setSel x).hw = s.hw := rfl
@[simp] theorem State.setSel_ports (s : State) (x : Selector) : (s.setSel x).ports = s.ports := rfl
@[simp] theorem State.setSel_queue (s : State) (x : Selector) : (s.setSel x).queue = s.queue := rfl
@[simp] theorem State.setSel_office (s : State) (x : Selector) : (s.setSel x).office = s.office := rfl
@[simp] theorem State.setSel_sel (s : State) (x : Selector) : (s.setSel x).sel = x := rfl
@[simp] theorem State.setSel_eng (s : State) (x : Selector) : (s.setSel x).eng = s.eng := rfl
@[simp] theorem State.setSel_faults (s : State) (x : Selector) : (s.setSel x).faults = s.faults := rfl
@[simp] theorem State.setSel_store (s : State) (x : Selector) : (s.setSel x).store = s.store := rfl
@[simp] theorem State.setSel_hold (s : State) (x : Selector) : (s.setSel x).hold = s.hold := rfl
@[simp] theorem State.setSel_pending (s : State) (x : Selector) : (s.setSel x).pending = s.pending := rfl

@[simp] theorem State.setEng_hw (s : State) (x : Engine) : (s.setEng x).hw = s.hw := rfl
@[simp] theorem State.setEng_ports (s : State) (x : Engine) : (s.setEng x).ports = s.ports := rfl
@[simp] theorem State.setEng_queue (s : State) (x : Engine) : (s.setEng x).queue = s.queue := rfl
@[simp] theorem State.setEng_office (s : State) (x : Engine) : (s.setEng x).office = s.office := rfl
@[simp] theorem State.setEng_sel (s : State) (x : Engine) : (s.setEng x).sel = s.sel := rfl
@[simp] theorem State.setEng_eng (s : State) (x : Engine) : (s.setEng x).eng = x := rfl
@[simp] theorem State.setEng_faults (s : State) (x : Engine) : (s.setEng x).faults = s.faults := rfl
@[simp] theorem State.setEng_store (s : State) (x : Engine) : (s.setEng x).store = s.store := rfl
@[simp] theorem State.setEng_hold (s : State) (x : Engine) : (s.setEng x).hold = s.hold := rfl
@[simp] theorem State.setEng_pending (s : State) (x : Engine) : (s.setEng x).pending = s.pending := rfl

@[simp] theorem State.setFaults_hw (s : State) (x : List FaultEntry) : (s.setFaults x).hw = s.hw := rfl
@[simp] theorem State.setFaults_ports (s : State) (x : List FaultEntry) : (s.setFaults x).ports = s.ports := rfl
@[simp] theorem State.setFaults_queue (s : State) (x : List FaultEntry) : (s.setFaults x).queue = s.queue := rfl
@[simp] theorem State.setFaults_office (s : State) (x : List FaultEntry) : (s.setFaults x).office = s.office := rfl
@[simp] theorem State.setFaults_sel (s : State) (x : List FaultEntry) : (s.setFaults x).sel = s.sel := rfl
@[simp] theorem State.setFaults_eng (s : State) (x : List FaultEntry) : (s.setFaults x).eng = s.eng := rfl
@[simp] theorem State.setFaults_faults (s : State) (x : List FaultEntry) : (s.setFaults x).faults = x := rfl
@[simp] theorem State.setFaults_store (s : State) (x : List FaultEntry) : (s.setFaults x).store = s.store := rfl
@[simp] theorem State.setFaults_hold (s : State) (x : List FaultEntry) : (s.setFaults x).hold = s.hold := rfl
@[simp] theorem State.setFaults_pending (s : State) (x : List FaultEntry) : (s.setFaults x).pending = s.pending := rfl

@[simp] theorem State.setStore_hw (s : State) (x : Store) : (s.setStore x).hw = s.hw := rfl
@[simp] theorem State.setStore_ports (s : State) (x : Store) : (s.setStore x).ports = s.ports := rfl
@[simp] theorem State.setStore_queue (s : State) (x : Store) : (s.setStore x).queue = s.queue := rfl
@[simp] theorem State.setStore_office (s : State) (x : Store) : (s.setStore x).office = s.office := rfl
@[simp] theorem State.setStore_sel (s : State) (x : Store) : (s.setStore x).sel = s.sel := rfl
@[simp] theorem State.setStore_eng (s : State) (x : Store) : (s.setStore x).eng = s.eng := rfl
@[simp] theorem State.setStore_faults (s : State) (x : Store) : (s.setStore x).faults = s.faults := rfl
@[simp] theorem State.setStore_store (s : State) (x : Store) : (s.setStore x).store = x := rfl
@[simp] theorem State.setStore_hold (s : State) (x : Store) : (s.setStore x).hold = s.hold := rfl
@[simp] theorem State.setStore_pending (s : State) (x : Store) : (s.setStore x).pending = s.pending := rfl

@[simp] theorem State.setHold_hw (s : State) (x : HoldUnit) : (s.setHold x).hw = s.hw := rfl
@[simp] theorem State.setHold_ports (s : State) (x : HoldUnit) : (s.setHold x).ports = s.ports := rfl
@[simp] theorem State.setHold_queue (s : State) (x : HoldUnit) : (s.setHold x).queue = s.queue := rfl
@[simp] theorem State.setHold_office (s : State) (x : HoldUnit) : (s.setHold x).office = s.office := rfl
@[simp] theorem State.setHold_sel (s : State) (x : HoldUnit) : (s.setHold x).sel = s.sel := rfl
@[simp] theorem State.setHold_eng (s : State) (x : HoldUnit) : (s.setHold x).eng = s.eng := rfl
@[simp] theorem State.setHold_faults (s : State) (x : HoldUnit) : (s.setHold x).faults = s.faults := rfl
@[simp] theorem State.setHold_store (s : State) (x : HoldUnit) : (s.setHold x).store = s.store := rfl
@[simp] theorem State.setHold_hold (s : State) (x : HoldUnit) : (s.setHold x).hold = x := rfl
@[simp] theorem State.setHold_pending (s : State) (x : HoldUnit) : (s.setHold x).pending = s.pending := rfl

@[simp] theorem State.setPending_hw (s : State) (x : List Instr) : (s.setPending x).hw = s.hw := rfl
@[simp] theorem State.setPending_ports (s : State) (x : List Instr) : (s.setPending x).ports = s.ports := rfl
@[simp] theorem State.setPending_queue (s : State) (x : List Instr) : (s.setPending x).queue = s.queue := rfl
@[simp] theorem State.setPending_office (s : State) (x : List Instr) : (s.setPending x).office = s.office := rfl
@[simp] theorem State.setPending_sel (s : State) (x : List Instr) : (s.setPending x).sel = s.sel := rfl
@[simp] theorem State.setPending_eng (s : State) (x : List Instr) : (s.setPending x).eng = s.eng := rfl
@[simp] theorem State.setPending_faults (s : State) (x : List Instr) : (s.setPending x).faults = s.faults := rfl
@[simp] theorem State.setPending_store (s : State) (x : List Instr) : (s.setPending x).store = s.store := rfl
@[simp] theorem State.setPending_hold (s : State) (x : List Instr) : (s.setPending x).hold = s.hold := rfl
@[simp] theorem State.setPending_pending (s : State) (x : List Instr) : (s.setPending x).pending = x := rfl

/-! ### A part replaced twice, or by itself -/

@[simp] theorem State.setHw_setHw (s : State) (x y : Highway) : (s.setHw x).setHw y = s.setHw y := rfl
@[simp] theorem State.setHw_self (s : State) : s.setHw s.hw = s := rfl
@[simp] theorem State.setPorts_setPorts (s : State) (x y : Tab PortRecord 32) : (s.setPorts x).setPorts y = s.setPorts y := rfl
@[simp] theorem State.setPorts_self (s : State) : s.setPorts s.ports = s := rfl
@[simp] theorem State.setQueue_setQueue (s : State) (x y : TestQueue) : (s.setQueue x).setQueue y = s.setQueue y := rfl
@[simp] theorem State.setQueue_self (s : State) : s.setQueue s.queue = s := rfl
@[simp] theorem State.setOffice_setOffice (s : State) (x y : Office) : (s.setOffice x).setOffice y = s.setOffice y := rfl
@[simp] theorem State.setOffice_self (s : State) : s.setOffice s.office = s := rfl
@[simp] theorem State.setSel_setSel (s : State) (x y : Selector) : (s.setSel x).setSel y = s.setSel y := rfl
@[simp] theorem State.setSel_self (s : State) : s.setSel s.sel = s := rfl
@[simp] theorem State.setEng_setEng (s : State) (x y : Engine) : (s.setEng x).setEng y = s.setEng y := rfl
@[simp] theorem State.setEng_self (s : State) : s.setEng s.eng = s := rfl
@[simp] theorem State.setFaults_setFaults (s : State) (x y : List FaultEntry) : (s.setFaults x).setFaults y = s.setFaults y := rfl
@[simp] theorem State.setFaults_self (s : State) : s.setFaults s.faults = s := rfl
@[simp] theorem State.setStore_setStore (s : State) (x y : Store) : (s.setStore x).setStore y = s.setStore y := rfl
@[simp] theorem State.setStore_self (s : State) : s.setStore s.store = s := rfl
@[simp] theorem State.setHold_setHold (s : State) (x y : HoldUnit) : (s.setHold x).setHold y = s.setHold y := rfl
@[simp] theorem State.setHold_self (s : State) : s.setHold s.hold = s := rfl
@[simp] theorem State.setPending_setPending (s : State) (x y : List Instr) : (s.setPending x).setPending y = s.setPending y := rfl
@[simp] theorem State.setPending_self (s : State) : s.setPending s.pending = s := rfl

/-! ### Links and ports -/

@[simp] theorem State.setLink_ports (s : State) (c : Client) (l : Link) : (s.setLink c l).ports = s.ports := rfl
@[simp] theorem State.setLink_queue (s : State) (c : Client) (l : Link) : (s.setLink c l).queue = s.queue := rfl
@[simp] theorem State.setLink_office (s : State) (c : Client) (l : Link) : (s.setLink c l).office = s.office := rfl
@[simp] theorem State.setLink_sel (s : State) (c : Client) (l : Link) : (s.setLink c l).sel = s.sel := rfl
@[simp] theorem State.setLink_eng (s : State) (c : Client) (l : Link) : (s.setLink c l).eng = s.eng := rfl
@[simp] theorem State.setLink_faults (s : State) (c : Client) (l : Link) : (s.setLink c l).faults = s.faults := rfl
@[simp] theorem State.setLink_store (s : State) (c : Client) (l : Link) : (s.setLink c l).store = s.store := rfl
@[simp] theorem State.setLink_hold (s : State) (c : Client) (l : Link) : (s.setLink c l).hold = s.hold := rfl
@[simp] theorem State.setLink_pending (s : State) (c : Client) (l : Link) : (s.setLink c l).pending = s.pending := rfl
@[simp] theorem State.setLink_frame (s : State) (c : Client) (l : Link) : (s.setLink c l).hw.frame = s.hw.frame := rfl
@[simp] theorem State.setLink_tx (s : State) (c : Client) (l : Link) : (s.setLink c l).hw.tx = s.hw.tx := rfl
@[simp] theorem State.setLink_link_same (s : State) (c : Client) (l : Link) : (s.setLink c l).link c = l := by
  simp [State.setLink, State.link]
theorem State.setLink_link_ne (s : State) {c d : Client} (l : Link) (h : c ≠ d) :
    (s.setLink c l).link d = s.link d := by
  simp [State.setLink, State.link, Tab.at_put_ne _ _ h]
@[simp] theorem State.setPorts_link (s : State) (x : Tab PortRecord 32) (c : Client) : (s.setPorts x).link c = s.link c := rfl
@[simp] theorem State.setQueue_link (s : State) (x : TestQueue) (c : Client) : (s.setQueue x).link c = s.link c := rfl
@[simp] theorem State.setOffice_link (s : State) (x : Office) (c : Client) : (s.setOffice x).link c = s.link c := rfl
@[simp] theorem State.setSel_link (s : State) (x : Selector) (c : Client) : (s.setSel x).link c = s.link c := rfl
@[simp] theorem State.setEng_link (s : State) (x : Engine) (c : Client) : (s.setEng x).link c = s.link c := rfl
@[simp] theorem State.setFaults_link (s : State) (x : List FaultEntry) (c : Client) : (s.setFaults x).link c = s.link c := rfl
@[simp] theorem State.setStore_link (s : State) (x : Store) (c : Client) : (s.setStore x).link c = s.link c := rfl
@[simp] theorem State.setHold_link (s : State) (x : HoldUnit) (c : Client) : (s.setHold x).link c = s.link c := rfl
@[simp] theorem State.setPending_link (s : State) (x : List Instr) (c : Client) : (s.setPending x).link c = s.link c := rfl

@[simp] theorem State.setPort_hw (s : State) (p : PortNo) (r : PortRecord) : (s.setPort p r).hw = s.hw := rfl
@[simp] theorem State.setPort_queue (s : State) (p : PortNo) (r : PortRecord) : (s.setPort p r).queue = s.queue := rfl
@[simp] theorem State.setPort_office (s : State) (p : PortNo) (r : PortRecord) : (s.setPort p r).office = s.office := rfl
@[simp] theorem State.setPort_sel (s : State) (p : PortNo) (r : PortRecord) : (s.setPort p r).sel = s.sel := rfl
@[simp] theorem State.setPort_eng (s : State) (p : PortNo) (r : PortRecord) : (s.setPort p r).eng = s.eng := rfl
@[simp] theorem State.setPort_faults (s : State) (p : PortNo) (r : PortRecord) : (s.setPort p r).faults = s.faults := rfl
@[simp] theorem State.setPort_store (s : State) (p : PortNo) (r : PortRecord) : (s.setPort p r).store = s.store := rfl
@[simp] theorem State.setPort_hold (s : State) (p : PortNo) (r : PortRecord) : (s.setPort p r).hold = s.hold := rfl
@[simp] theorem State.setPort_pending (s : State) (p : PortNo) (r : PortRecord) : (s.setPort p r).pending = s.pending := rfl
@[simp] theorem State.setPort_port_same (s : State) (p : PortNo) (r : PortRecord) : (s.setPort p r).port p = r := by
  simp [State.setPort, State.port]
theorem State.setPort_port (s : State) (p q : PortNo) (r : PortRecord) :
    (s.setPort p r).port q = if p = q then r else s.port q := by
  simp [State.setPort, State.port, Tab.at_put]
@[simp] theorem State.setPort_link (s : State) (p : PortNo) (r : PortRecord) (c : Client) :
    (s.setPort p r).link c = s.link c := rfl
@[simp] theorem State.setLink_port (s : State) (c : Client) (l : Link) (p : PortNo) :
    (s.setLink c l).port p = s.port p := rfl
@[simp] theorem State.setHw_port (s : State) (x : Highway) (p : PortNo) : (s.setHw x).port p = s.port p := rfl
@[simp] theorem State.setQueue_port (s : State) (x : TestQueue) (p : PortNo) : (s.setQueue x).port p = s.port p := rfl
@[simp] theorem State.setOffice_port (s : State) (x : Office) (p : PortNo) : (s.setOffice x).port p = s.port p := rfl
@[simp] theorem State.setSel_port (s : State) (x : Selector) (p : PortNo) : (s.setSel x).port p = s.port p := rfl
@[simp] theorem State.setEng_port (s : State) (x : Engine) (p : PortNo) : (s.setEng x).port p = s.port p := rfl
@[simp] theorem State.setFaults_port (s : State) (x : List FaultEntry) (p : PortNo) : (s.setFaults x).port p = s.port p := rfl
@[simp] theorem State.setStore_port (s : State) (x : Store) (p : PortNo) : (s.setStore x).port p = s.port p := rfl
@[simp] theorem State.setHold_port (s : State) (x : HoldUnit) (p : PortNo) : (s.setHold x).port p = s.port p := rfl
@[simp] theorem State.setPending_port (s : State) (x : List Instr) (p : PortNo) : (s.setPending x).port p = s.port p := rfl

end Sys2Proof.Machine
end

