-- ==== Sys2Proof/Laws/Ops.lean ====
section
/-! SUPPORT. What each shared operation of Ops leaves as it was, part by part. A part that a lemma here does not name
is one the operation may change. -/

namespace Sys2Proof.Machine

/-- The drain's work on one port changes the queue alone (R40). -/
theorem State.drainPort_eq (s : State) (p : PortNo) : s.drainPort p = s.setQueue (s.drainPort p).queue := by
  unfold State.drainPort
  (repeat' split) <;> rfl

/-- The latch drain changes the queue alone (R40). -/
theorem State.drain_eq (s : State) : s.drain = s.setQueue s.drain.queue := by
  have h : ∀ (l : List PortNo) (t : State), l.foldl State.drainPort t = t.setQueue (l.foldl State.drainPort t).queue := by
    intro l
    induction l with
    | nil => intro t; rfl
    | cons p l ih =>
      intro t
      rw [List.foldl_cons, ih, State.drainPort_eq t p]
      rfl
  exact h portList s

@[simp] theorem State.drain_hw (s : State) : s.drain.hw = s.hw := by
  have h := congrArg State.hw s.drain_eq
  simpa only [State.setQueue_hw] using h
@[simp] theorem State.drain_ports (s : State) : s.drain.ports = s.ports := by
  have h := congrArg State.ports s.drain_eq
  simpa only [State.setQueue_ports] using h
@[simp] theorem State.drain_office (s : State) : s.drain.office = s.office := by
  have h := congrArg State.office s.drain_eq
  simpa only [State.setQueue_office] using h
@[simp] theorem State.drain_sel (s : State) : s.drain.sel = s.sel := by
  have h := congrArg State.sel s.drain_eq
  simpa only [State.setQueue_sel] using h
@[simp] theorem State.drain_eng (s : State) : s.drain.eng = s.eng := by
  have h := congrArg State.eng s.drain_eq
  simpa only [State.setQueue_eng] using h
@[simp] theorem State.drain_faults (s : State) : s.drain.faults = s.faults := by
  have h := congrArg State.faults s.drain_eq
  simpa only [State.setQueue_faults] using h
@[simp] theorem State.drain_store (s : State) : s.drain.store = s.store := by
  have h := congrArg State.store s.drain_eq
  simpa only [State.setQueue_store] using h
@[simp] theorem State.drain_hold (s : State) : s.drain.hold = s.hold := by
  have h := congrArg State.hold s.drain_eq
  simpa only [State.setQueue_hold] using h
@[simp] theorem State.drain_pending (s : State) : s.drain.pending = s.pending := by
  have h := congrArg State.pending s.drain_eq
  simpa only [State.setQueue_pending] using h
@[simp] theorem State.drain_link (s : State) (d : Client) : s.drain.link d = s.link d := by
  simp [State.link]
@[simp] theorem State.drain_port (s : State) (q : PortNo) : s.drain.port q = s.port q := by
  simp [State.port]

@[simp] theorem State.depart_hw (s : State) (f : Entry → Bool) : (s.depart f).hw = s.hw := by
  unfold State.depart
  split <;> simp
@[simp] theorem State.depart_ports (s : State) (f : Entry → Bool) : (s.depart f).ports = s.ports := by
  unfold State.depart
  split <;> simp
@[simp] theorem State.depart_office (s : State) (f : Entry → Bool) : (s.depart f).office = s.office := by
  unfold State.depart
  split <;> simp
@[simp] theorem State.depart_sel (s : State) (f : Entry → Bool) : (s.depart f).sel = s.sel := by
  unfold State.depart
  split <;> simp
@[simp] theorem State.depart_eng (s : State) (f : Entry → Bool) : (s.depart f).eng = s.eng := by
  unfold State.depart
  split <;> simp
@[simp] theorem State.depart_faults (s : State) (f : Entry → Bool) : (s.depart f).faults = s.faults := by
  unfold State.depart
  split <;> simp
@[simp] theorem State.depart_store (s : State) (f : Entry → Bool) : (s.depart f).store = s.store := by
  unfold State.depart
  split <;> simp
@[simp] theorem State.depart_hold (s : State) (f : Entry → Bool) : (s.depart f).hold = s.hold := by
  unfold State.depart
  split <;> simp
@[simp] theorem State.depart_pending (s : State) (f : Entry → Bool) : (s.depart f).pending = s.pending := by
  unfold State.depart
  split <;> simp
@[simp] theorem State.depart_link (s : State) (f : Entry → Bool) (d : Client) : (s.depart f).link d = s.link d := by
  simp [State.link]
@[simp] theorem State.depart_port (s : State) (f : Entry → Bool) (q : PortNo) : (s.depart f).port q = s.port q := by
  simp [State.port]

@[simp] theorem State.writeResult_hw (s : State) (p : PortNo) (r : ResultRecord) : (s.writeResult p r).hw = s.hw := rfl
@[simp] theorem State.writeResult_queue (s : State) (p : PortNo) (r : ResultRecord) : (s.writeResult p r).queue = s.queue := rfl
@[simp] theorem State.writeResult_office (s : State) (p : PortNo) (r : ResultRecord) : (s.writeResult p r).office = s.office := rfl
@[simp] theorem State.writeResult_sel (s : State) (p : PortNo) (r : ResultRecord) : (s.writeResult p r).sel = s.sel := rfl
@[simp] theorem State.writeResult_eng (s : State) (p : PortNo) (r : ResultRecord) : (s.writeResult p r).eng = s.eng := rfl
@[simp] theorem State.writeResult_faults (s : State) (p : PortNo) (r : ResultRecord) : (s.writeResult p r).faults = s.faults := rfl
@[simp] theorem State.writeResult_store (s : State) (p : PortNo) (r : ResultRecord) : (s.writeResult p r).store = s.store := rfl
@[simp] theorem State.writeResult_hold (s : State) (p : PortNo) (r : ResultRecord) : (s.writeResult p r).hold = s.hold := rfl
@[simp] theorem State.writeResult_pending (s : State) (p : PortNo) (r : ResultRecord) : (s.writeResult p r).pending = s.pending := rfl
@[simp] theorem State.writeResult_link (s : State) (p : PortNo) (r : ResultRecord) (d : Client) : (s.writeResult p r).link d = s.link d := by
  simp [State.link]

@[simp] theorem State.discardWork_hw (s : State) : s.discardWork.hw = s.hw := rfl
@[simp] theorem State.discardWork_ports (s : State) : s.discardWork.ports = s.ports := rfl
@[simp] theorem State.discardWork_queue (s : State) : s.discardWork.queue = s.queue := rfl
@[simp] theorem State.discardWork_office (s : State) : s.discardWork.office = s.office := rfl
@[simp] theorem State.discardWork_sel (s : State) : s.discardWork.sel = s.sel := rfl
@[simp] theorem State.discardWork_faults (s : State) : s.discardWork.faults = s.faults := rfl
@[simp] theorem State.discardWork_hold (s : State) : s.discardWork.hold = s.hold := rfl
@[simp] theorem State.discardWork_pending (s : State) : s.discardWork.pending = s.pending := rfl
@[simp] theorem State.discardWork_link (s : State) (d : Client) : s.discardWork.link d = s.link d := by
  simp [State.link]
@[simp] theorem State.discardWork_port (s : State) (q : PortNo) : s.discardWork.port q = s.port q := by
  simp [State.port]

@[simp] theorem State.enterHeld_hw (s : State) : s.enterHeld.hw = s.hw := rfl
@[simp] theorem State.enterHeld_ports (s : State) : s.enterHeld.ports = s.ports := rfl
@[simp] theorem State.enterHeld_queue (s : State) : s.enterHeld.queue = s.queue := rfl
@[simp] theorem State.enterHeld_office (s : State) : s.enterHeld.office = s.office := rfl
@[simp] theorem State.enterHeld_sel (s : State) : s.enterHeld.sel = s.sel := rfl
@[simp] theorem State.enterHeld_faults (s : State) : s.enterHeld.faults = s.faults := rfl
@[simp] theorem State.enterHeld_store (s : State) : s.enterHeld.store = s.store := rfl
@[simp] theorem State.enterHeld_pending (s : State) : s.enterHeld.pending = s.pending := rfl
@[simp] theorem State.enterHeld_link (s : State) (d : Client) : s.enterHeld.link d = s.link d := by
  simp [State.link]
@[simp] theorem State.enterHeld_port (s : State) (q : PortNo) : s.enterHeld.port q = s.port q := by
  simp [State.port]

@[simp] theorem State.leaveTest_hw (s : State) : s.leaveTest.hw = s.hw := by
  unfold State.leaveTest
  (repeat' split) <;> simp
@[simp] theorem State.leaveTest_ports (s : State) : s.leaveTest.ports = s.ports := by
  unfold State.leaveTest
  (repeat' split) <;> simp
@[simp] theorem State.leaveTest_queue (s : State) : s.leaveTest.queue = s.queue := by
  unfold State.leaveTest
  (repeat' split) <;> simp
@[simp] theorem State.leaveTest_office (s : State) : s.leaveTest.office = s.office := by
  unfold State.leaveTest
  (repeat' split) <;> simp
@[simp] theorem State.leaveTest_sel (s : State) : s.leaveTest.sel = s.sel := by
  unfold State.leaveTest
  (repeat' split) <;> simp
@[simp] theorem State.leaveTest_faults (s : State) : s.leaveTest.faults = s.faults := by
  unfold State.leaveTest
  (repeat' split) <;> simp
@[simp] theorem State.leaveTest_store (s : State) : s.leaveTest.store = s.store := by
  unfold State.leaveTest
  (repeat' split) <;> simp
@[simp] theorem State.leaveTest_pending (s : State) : s.leaveTest.pending = s.pending := by
  unfold State.leaveTest
  (repeat' split) <;> simp
@[simp] theorem State.leaveTest_link (s : State) (d : Client) : s.leaveTest.link d = s.link d := by
  simp [State.link]
@[simp] theorem State.leaveTest_port (s : State) (q : PortNo) : s.leaveTest.port q = s.port q := by
  simp [State.port]

@[simp] theorem State.admitConfirm_hw (s : State) (p : PortNo) : (s.admitConfirm p).hw = s.hw := by
  unfold State.admitConfirm
  (repeat' split) <;> simp
@[simp] theorem State.admitConfirm_ports (s : State) (p : PortNo) : (s.admitConfirm p).ports = s.ports := by
  unfold State.admitConfirm
  (repeat' split) <;> simp
@[simp] theorem State.admitConfirm_office (s : State) (p : PortNo) : (s.admitConfirm p).office = s.office := by
  unfold State.admitConfirm
  (repeat' split) <;> simp
@[simp] theorem State.admitConfirm_sel (s : State) (p : PortNo) : (s.admitConfirm p).sel = s.sel := by
  unfold State.admitConfirm
  (repeat' split) <;> simp
@[simp] theorem State.admitConfirm_eng (s : State) (p : PortNo) : (s.admitConfirm p).eng = s.eng := by
  unfold State.admitConfirm
  (repeat' split) <;> simp
@[simp] theorem State.admitConfirm_faults (s : State) (p : PortNo) : (s.admitConfirm p).faults = s.faults := by
  unfold State.admitConfirm
  (repeat' split) <;> simp
@[simp] theorem State.admitConfirm_store (s : State) (p : PortNo) : (s.admitConfirm p).store = s.store := by
  unfold State.admitConfirm
  (repeat' split) <;> simp
@[simp] theorem State.admitConfirm_hold (s : State) (p : PortNo) : (s.admitConfirm p).hold = s.hold := by
  unfold State.admitConfirm
  (repeat' split) <;> simp
@[simp] theorem State.admitConfirm_pending (s : State) (p : PortNo) : (s.admitConfirm p).pending = s.pending := by
  unfold State.admitConfirm
  (repeat' split) <;> simp
@[simp] theorem State.admitConfirm_link (s : State) (p : PortNo) (d : Client) : (s.admitConfirm p).link d = s.link d := by
  simp [State.link]
@[simp] theorem State.admitConfirm_port (s : State) (p : PortNo) (q : PortNo) : (s.admitConfirm p).port q = s.port q := by
  simp [State.port]

@[simp] theorem State.endTest_hw (s : State) (st : Status) (c : Option Cause) (r : Report) (f : Bool) : (s.endTest st c r f).hw = s.hw := by
  unfold State.endTest
  (repeat' split) <;> simp
@[simp] theorem State.endTest_office (s : State) (st : Status) (c : Option Cause) (r : Report) (f : Bool) : (s.endTest st c r f).office = s.office := by
  unfold State.endTest
  (repeat' split) <;> simp
@[simp] theorem State.endTest_sel (s : State) (st : Status) (c : Option Cause) (r : Report) (f : Bool) : (s.endTest st c r f).sel = s.sel := by
  unfold State.endTest
  (repeat' split) <;> simp
@[simp] theorem State.endTest_faults (s : State) (st : Status) (c : Option Cause) (r : Report) (f : Bool) : (s.endTest st c r f).faults = s.faults := by
  unfold State.endTest
  (repeat' split) <;> simp
@[simp] theorem State.endTest_pending (s : State) (st : Status) (c : Option Cause) (r : Report) (f : Bool) : (s.endTest st c r f).pending = s.pending := by
  unfold State.endTest
  (repeat' split) <;> simp
@[simp] theorem State.endTest_link (s : State) (st : Status) (c : Option Cause) (r : Report) (f : Bool) (d : Client) : (s.endTest st c r f).link d = s.link d := by
  simp [State.link]

@[simp] theorem State.cancelTest_hw (s : State) : s.cancelTest.hw = s.hw := by
  simp [State.cancelTest]
@[simp] theorem State.cancelTest_office (s : State) : s.cancelTest.office = s.office := by
  simp [State.cancelTest]
@[simp] theorem State.cancelTest_sel (s : State) : s.cancelTest.sel = s.sel := by
  simp [State.cancelTest]
@[simp] theorem State.cancelTest_faults (s : State) : s.cancelTest.faults = s.faults := by
  simp [State.cancelTest]
@[simp] theorem State.cancelTest_pending (s : State) : s.cancelTest.pending = s.pending := by
  simp [State.cancelTest]
@[simp] theorem State.cancelTest_link (s : State) (d : Client) : s.cancelTest.link d = s.link d := by
  simp [State.link]

@[simp] theorem State.abort_hw (s : State) (c : Cause) : (s.abort c).hw = s.hw := by
  unfold State.abort
  (repeat' split) <;> simp
@[simp] theorem State.abort_office (s : State) (c : Cause) : (s.abort c).office = s.office := by
  unfold State.abort
  (repeat' split) <;> simp
@[simp] theorem State.abort_sel (s : State) (c : Cause) : (s.abort c).sel = s.sel := by
  unfold State.abort
  (repeat' split) <;> simp
@[simp] theorem State.abort_faults (s : State) (c : Cause) : (s.abort c).faults = s.faults := by
  unfold State.abort
  (repeat' split) <;> simp
@[simp] theorem State.abort_pending (s : State) (c : Cause) : (s.abort c).pending = s.pending := by
  unfold State.abort
  (repeat' split) <;> simp
@[simp] theorem State.abort_link (s : State) (c : Cause) (d : Client) : (s.abort c).link d = s.link d := by
  simp [State.link]

@[simp] theorem State.clearMark_hw (s : State) : s.clearMark.hw = s.hw := rfl
@[simp] theorem State.clearMark_ports (s : State) : s.clearMark.ports = s.ports := rfl
@[simp] theorem State.clearMark_queue (s : State) : s.clearMark.queue = s.queue := rfl
@[simp] theorem State.clearMark_office (s : State) : s.clearMark.office = s.office := rfl
@[simp] theorem State.clearMark_sel (s : State) : s.clearMark.sel = s.sel := rfl
@[simp] theorem State.clearMark_eng (s : State) : s.clearMark.eng = s.eng := rfl
@[simp] theorem State.clearMark_faults (s : State) : s.clearMark.faults = s.faults := rfl
@[simp] theorem State.clearMark_store (s : State) : s.clearMark.store = s.store := rfl
@[simp] theorem State.clearMark_pending (s : State) : s.clearMark.pending = s.pending := rfl
@[simp] theorem State.clearMark_link (s : State) (d : Client) : s.clearMark.link d = s.link d := by
  simp [State.link]
@[simp] theorem State.clearMark_port (s : State) (q : PortNo) : s.clearMark.port q = s.port q := by
  simp [State.port]

@[simp] theorem State.markRestart_hw (s : State) : s.markRestart.hw = s.hw := by
  unfold State.markRestart
  split <;> simp
@[simp] theorem State.markRestart_ports (s : State) : s.markRestart.ports = s.ports := by
  unfold State.markRestart
  split <;> simp
@[simp] theorem State.markRestart_queue (s : State) : s.markRestart.queue = s.queue := by
  unfold State.markRestart
  split <;> simp
@[simp] theorem State.markRestart_office (s : State) : s.markRestart.office = s.office := by
  unfold State.markRestart
  split <;> simp
@[simp] theorem State.markRestart_sel (s : State) : s.markRestart.sel = s.sel := by
  unfold State.markRestart
  split <;> simp
@[simp] theorem State.markRestart_eng (s : State) : s.markRestart.eng = s.eng := by
  unfold State.markRestart
  split <;> simp
@[simp] theorem State.markRestart_faults (s : State) : s.markRestart.faults = s.faults := by
  unfold State.markRestart
  split <;> simp
@[simp] theorem State.markRestart_store (s : State) : s.markRestart.store = s.store := by
  unfold State.markRestart
  split <;> simp
@[simp] theorem State.markRestart_pending (s : State) : s.markRestart.pending = s.pending := by
  unfold State.markRestart
  split <;> simp
@[simp] theorem State.markRestart_link (s : State) (d : Client) : s.markRestart.link d = s.link d := by
  simp [State.link]
@[simp] theorem State.markRestart_port (s : State) (q : PortNo) : s.markRestart.port q = s.port q := by
  simp [State.port]

@[simp] theorem State.beginBand_hw (s : State) (b : Band) : (s.beginBand b).hw = s.hw := rfl
@[simp] theorem State.beginBand_ports (s : State) (b : Band) : (s.beginBand b).ports = s.ports := rfl
@[simp] theorem State.beginBand_queue (s : State) (b : Band) : (s.beginBand b).queue = s.queue := rfl
@[simp] theorem State.beginBand_office (s : State) (b : Band) : (s.beginBand b).office = s.office := rfl
@[simp] theorem State.beginBand_sel (s : State) (b : Band) : (s.beginBand b).sel = s.sel := rfl
@[simp] theorem State.beginBand_faults (s : State) (b : Band) : (s.beginBand b).faults = s.faults := rfl
@[simp] theorem State.beginBand_store (s : State) (b : Band) : (s.beginBand b).store = s.store := rfl
@[simp] theorem State.beginBand_hold (s : State) (b : Band) : (s.beginBand b).hold = s.hold := rfl
@[simp] theorem State.beginBand_pending (s : State) (b : Band) : (s.beginBand b).pending = s.pending := rfl
@[simp] theorem State.beginBand_link (s : State) (b : Band) (d : Client) : (s.beginBand b).link d = s.link d := by
  simp [State.link]
@[simp] theorem State.beginBand_port (s : State) (b : Band) (q : PortNo) : (s.beginBand b).port q = s.port q := by
  simp [State.port]

@[simp] theorem State.beginLaserBlock_hw (s : State) : s.beginLaserBlock.hw = s.hw := rfl
@[simp] theorem State.beginLaserBlock_ports (s : State) : s.beginLaserBlock.ports = s.ports := rfl
@[simp] theorem State.beginLaserBlock_queue (s : State) : s.beginLaserBlock.queue = s.queue := rfl
@[simp] theorem State.beginLaserBlock_office (s : State) : s.beginLaserBlock.office = s.office := rfl
@[simp] theorem State.beginLaserBlock_sel (s : State) : s.beginLaserBlock.sel = s.sel := rfl
@[simp] theorem State.beginLaserBlock_faults (s : State) : s.beginLaserBlock.faults = s.faults := rfl
@[simp] theorem State.beginLaserBlock_store (s : State) : s.beginLaserBlock.store = s.store := rfl
@[simp] theorem State.beginLaserBlock_hold (s : State) : s.beginLaserBlock.hold = s.hold := rfl
@[simp] theorem State.beginLaserBlock_pending (s : State) : s.beginLaserBlock.pending = s.pending := rfl
@[simp] theorem State.beginLaserBlock_link (s : State) (d : Client) : s.beginLaserBlock.link d = s.link d := by
  simp [State.link]
@[simp] theorem State.beginLaserBlock_port (s : State) (q : PortNo) : s.beginLaserBlock.port q = s.port q := by
  simp [State.port]

@[simp] theorem State.park_hw (s : State) (x : ResumePoint) : (s.park x).hw = s.hw := rfl
@[simp] theorem State.park_ports (s : State) (x : ResumePoint) : (s.park x).ports = s.ports := rfl
@[simp] theorem State.park_office (s : State) (x : ResumePoint) : (s.park x).office = s.office := rfl
@[simp] theorem State.park_sel (s : State) (x : ResumePoint) : (s.park x).sel = s.sel := rfl
@[simp] theorem State.park_faults (s : State) (x : ResumePoint) : (s.park x).faults = s.faults := rfl
@[simp] theorem State.park_store (s : State) (x : ResumePoint) : (s.park x).store = s.store := rfl
@[simp] theorem State.park_pending (s : State) (x : ResumePoint) : (s.park x).pending = s.pending := rfl
@[simp] theorem State.park_link (s : State) (x : ResumePoint) (d : Client) : (s.park x).link d = s.link d := by
  simp [State.link]
@[simp] theorem State.park_port (s : State) (x : ResumePoint) (q : PortNo) : (s.park x).port q = s.port q := by
  simp [State.port]

@[simp] theorem State.goOn_hw (s : State) (ri : RunInfo) : (s.goOn ri).hw = s.hw := by
  unfold State.goOn
  (repeat' split) <;> simp
@[simp] theorem State.goOn_ports (s : State) (ri : RunInfo) : (s.goOn ri).ports = s.ports := by
  unfold State.goOn
  (repeat' split) <;> simp
@[simp] theorem State.goOn_office (s : State) (ri : RunInfo) : (s.goOn ri).office = s.office := by
  unfold State.goOn
  (repeat' split) <;> simp
@[simp] theorem State.goOn_sel (s : State) (ri : RunInfo) : (s.goOn ri).sel = s.sel := by
  unfold State.goOn
  (repeat' split) <;> simp
@[simp] theorem State.goOn_faults (s : State) (ri : RunInfo) : (s.goOn ri).faults = s.faults := by
  unfold State.goOn
  (repeat' split) <;> simp
@[simp] theorem State.goOn_store (s : State) (ri : RunInfo) : (s.goOn ri).store = s.store := by
  unfold State.goOn
  (repeat' split) <;> simp
@[simp] theorem State.goOn_pending (s : State) (ri : RunInfo) : (s.goOn ri).pending = s.pending := by
  unfold State.goOn
  (repeat' split) <;> simp
@[simp] theorem State.goOn_link (s : State) (ri : RunInfo) (d : Client) : (s.goOn ri).link d = s.link d := by
  simp [State.link]
@[simp] theorem State.goOn_port (s : State) (ri : RunInfo) (q : PortNo) : (s.goOn ri).port q = s.port q := by
  simp [State.port]

@[simp] theorem State.arrive_hw (s : State) : s.arrive.hw = s.hw := by
  unfold State.arrive
  (repeat' split) <;> simp
@[simp] theorem State.arrive_office (s : State) : s.arrive.office = s.office := by
  unfold State.arrive
  (repeat' split) <;> simp
@[simp] theorem State.arrive_sel (s : State) : s.arrive.sel = s.sel := by
  unfold State.arrive
  (repeat' split) <;> simp
@[simp] theorem State.arrive_faults (s : State) : s.arrive.faults = s.faults := by
  unfold State.arrive
  (repeat' split) <;> simp
@[simp] theorem State.arrive_pending (s : State) : s.arrive.pending = s.pending := by
  unfold State.arrive
  (repeat' split) <;> simp
@[simp] theorem State.arrive_link (s : State) (d : Client) : s.arrive.link d = s.link d := by
  simp [State.link]

@[simp] theorem State.positionFailed_hw (s : State) : s.positionFailed.hw = s.hw := by
  simp [State.positionFailed]
@[simp] theorem State.positionFailed_office (s : State) : s.positionFailed.office = s.office := by
  simp [State.positionFailed]
@[simp] theorem State.positionFailed_sel (s : State) : s.positionFailed.sel = s.sel := by
  simp [State.positionFailed]
@[simp] theorem State.positionFailed_faults (s : State) : s.positionFailed.faults = s.faults := by
  simp [State.positionFailed]
@[simp] theorem State.positionFailed_pending (s : State) : s.positionFailed.pending = s.pending := by
  simp [State.positionFailed]
@[simp] theorem State.positionFailed_link (s : State) (d : Client) : s.positionFailed.link d = s.link d := by
  simp [State.link]

@[simp] theorem State.heed_hw (s : State) (x : SelReport) : (s.heed x).hw = s.hw := by
  cases x <;> simp [State.heed] <;> split <;> simp
@[simp] theorem State.heed_office (s : State) (x : SelReport) : (s.heed x).office = s.office := by
  cases x <;> simp [State.heed] <;> split <;> simp
@[simp] theorem State.heed_sel (s : State) (x : SelReport) : (s.heed x).sel = s.sel := by
  cases x <;> simp [State.heed] <;> split <;> simp
@[simp] theorem State.heed_faults (s : State) (x : SelReport) : (s.heed x).faults = s.faults := by
  cases x <;> simp [State.heed] <;> split <;> simp
@[simp] theorem State.heed_pending (s : State) (x : SelReport) : (s.heed x).pending = s.pending := by
  cases x <;> simp [State.heed] <;> split <;> simp
@[simp] theorem State.heed_link (s : State) (x : SelReport) (d : Client) : (s.heed x).link d = s.link d := by
  simp [State.link]

@[simp] theorem State.selEvent_hw (s : State) (x : Selector × SelReport) : (s.selEvent x).hw = s.hw := by
  simp [State.selEvent]
@[simp] theorem State.selEvent_office (s : State) (x : Selector × SelReport) : (s.selEvent x).office = s.office := by
  simp [State.selEvent]
@[simp] theorem State.selEvent_faults (s : State) (x : Selector × SelReport) : (s.selEvent x).faults = s.faults := by
  simp [State.selEvent]
@[simp] theorem State.selEvent_pending (s : State) (x : Selector × SelReport) : (s.selEvent x).pending = s.pending := by
  simp [State.selEvent]
@[simp] theorem State.selEvent_link (s : State) (x : Selector × SelReport) (d : Client) : (s.selEvent x).link d = s.link d := by
  simp [State.link]

@[simp] theorem State.requestPosition_hw (s : State) (p : PortNo) : (s.requestPosition p).hw = s.hw := by
  simp [State.requestPosition]
@[simp] theorem State.requestPosition_office (s : State) (p : PortNo) : (s.requestPosition p).office = s.office := by
  simp [State.requestPosition]
@[simp] theorem State.requestPosition_faults (s : State) (p : PortNo) : (s.requestPosition p).faults = s.faults := by
  simp [State.requestPosition]
@[simp] theorem State.requestPosition_pending (s : State) (p : PortNo) : (s.requestPosition p).pending = s.pending := by
  simp [State.requestPosition]
@[simp] theorem State.requestPosition_link (s : State) (p : PortNo) (d : Client) : (s.requestPosition p).link d = s.link d := by
  simp [State.link]

@[simp] theorem State.startTest_hw (s : State) (e : Entry) (c : Client) : (s.startTest e c).hw = s.hw := by
  simp [State.startTest]
@[simp] theorem State.startTest_office (s : State) (e : Entry) (c : Client) : (s.startTest e c).office = s.office := by
  simp [State.startTest]
@[simp] theorem State.startTest_faults (s : State) (e : Entry) (c : Client) : (s.startTest e c).faults = s.faults := by
  simp [State.startTest]
@[simp] theorem State.startTest_pending (s : State) (e : Entry) (c : Client) : (s.startTest e c).pending = s.pending := by
  simp [State.startTest]
@[simp] theorem State.startTest_link (s : State) (e : Entry) (c : Client) (d : Client) : (s.startTest e c).link d = s.link d := by
  simp [State.link]

@[simp] theorem State.arbitrate_hw (s : State) : s.arbitrate.hw = s.hw := by
  unfold State.arbitrate
  (repeat' split) <;> simp
@[simp] theorem State.arbitrate_office (s : State) : s.arbitrate.office = s.office := by
  unfold State.arbitrate
  (repeat' split) <;> simp
@[simp] theorem State.arbitrate_faults (s : State) : s.arbitrate.faults = s.faults := by
  unfold State.arbitrate
  (repeat' split) <;> simp
@[simp] theorem State.arbitrate_pending (s : State) : s.arbitrate.pending = s.pending := by
  unfold State.arbitrate
  (repeat' split) <;> simp
@[simp] theorem State.arbitrate_link (s : State) (d : Client) : s.arbitrate.link d = s.link d := by
  simp [State.link]

@[simp] theorem State.redrive_hw (s : State) : s.redrive.hw = s.hw := rfl
@[simp] theorem State.redrive_ports (s : State) : s.redrive.ports = s.ports := rfl
@[simp] theorem State.redrive_queue (s : State) : s.redrive.queue = s.queue := rfl
@[simp] theorem State.redrive_office (s : State) : s.redrive.office = s.office := rfl
@[simp] theorem State.redrive_eng (s : State) : s.redrive.eng = s.eng := rfl
@[simp] theorem State.redrive_faults (s : State) : s.redrive.faults = s.faults := rfl
@[simp] theorem State.redrive_store (s : State) : s.redrive.store = s.store := rfl
@[simp] theorem State.redrive_hold (s : State) : s.redrive.hold = s.hold := rfl
@[simp] theorem State.redrive_pending (s : State) : s.redrive.pending = s.pending := rfl
@[simp] theorem State.redrive_link (s : State) (d : Client) : s.redrive.link d = s.link d := by
  simp [State.link]
@[simp] theorem State.redrive_port (s : State) (q : PortNo) : s.redrive.port q = s.port q := by
  simp [State.port]

@[simp] theorem State.releaseHold_hw (s : State) : s.releaseHold.hw = s.hw := by
  unfold State.releaseHold
  (repeat' split) <;> simp
@[simp] theorem State.releaseHold_office (s : State) : s.releaseHold.office = s.office := by
  unfold State.releaseHold
  (repeat' split) <;> simp
@[simp] theorem State.releaseHold_faults (s : State) : s.releaseHold.faults = s.faults := by
  unfold State.releaseHold
  (repeat' split) <;> simp
@[simp] theorem State.releaseHold_pending (s : State) : s.releaseHold.pending = s.pending := by
  unfold State.releaseHold
  (repeat' split) <;> simp
@[simp] theorem State.releaseHold_link (s : State) (d : Client) : s.releaseHold.link d = s.link d := by
  simp [State.link]

@[simp] theorem State.joinHold_hw (s : State) (c : Client) : (s.joinHold c).hw = s.hw := by
  unfold State.joinHold
  (repeat' split) <;> simp
@[simp] theorem State.joinHold_ports (s : State) (c : Client) : (s.joinHold c).ports = s.ports := by
  unfold State.joinHold
  (repeat' split) <;> simp
@[simp] theorem State.joinHold_queue (s : State) (c : Client) : (s.joinHold c).queue = s.queue := by
  unfold State.joinHold
  (repeat' split) <;> simp
@[simp] theorem State.joinHold_office (s : State) (c : Client) : (s.joinHold c).office = s.office := by
  unfold State.joinHold
  (repeat' split) <;> simp
@[simp] theorem State.joinHold_sel (s : State) (c : Client) : (s.joinHold c).sel = s.sel := by
  unfold State.joinHold
  (repeat' split) <;> simp
@[simp] theorem State.joinHold_faults (s : State) (c : Client) : (s.joinHold c).faults = s.faults := by
  unfold State.joinHold
  (repeat' split) <;> simp
@[simp] theorem State.joinHold_store (s : State) (c : Client) : (s.joinHold c).store = s.store := by
  unfold State.joinHold
  (repeat' split) <;> simp
@[simp] theorem State.joinHold_pending (s : State) (c : Client) : (s.joinHold c).pending = s.pending := by
  unfold State.joinHold
  (repeat' split) <;> simp
@[simp] theorem State.joinHold_link (s : State) (c : Client) (d : Client) : (s.joinHold c).link d = s.link d := by
  simp [State.link]
@[simp] theorem State.joinHold_port (s : State) (c : Client) (q : PortNo) : (s.joinHold c).port q = s.port q := by
  simp [State.port]

@[simp] theorem State.leaveHold_hw (s : State) (c : Client) : (s.leaveHold c).hw = s.hw := by
  unfold State.leaveHold
  dsimp only
  (repeat' split) <;> simp
@[simp] theorem State.leaveHold_office (s : State) (c : Client) : (s.leaveHold c).office = s.office := by
  unfold State.leaveHold
  dsimp only
  (repeat' split) <;> simp
@[simp] theorem State.leaveHold_faults (s : State) (c : Client) : (s.leaveHold c).faults = s.faults := by
  unfold State.leaveHold
  dsimp only
  (repeat' split) <;> simp
@[simp] theorem State.leaveHold_pending (s : State) (c : Client) : (s.leaveHold c).pending = s.pending := by
  unfold State.leaveHold
  dsimp only
  (repeat' split) <;> simp
@[simp] theorem State.leaveHold_link (s : State) (c : Client) (d : Client) : (s.leaveHold c).link d = s.link d := by
  simp [State.link]

/-! ### The store's verify (R151) -/

/-- A verify passes when a WRITE reads back as its held buffer, or an ERASE as a header reading EMPTY. -/
theorem Store.verifies_iff (st : Store) (op : CommitOp) (r : ReadBack) :
    st.verifies op r = true ↔
      (∃ i k, op = .write i ∧ st.buffers.at i = .held k ∧ r = .valid k) ∨ (op = .erase ∧ r = .empty) := by
  cases op with
  | erase => simp [Store.verifies]
  | write i => cases h : st.buffers.at i <;> simp [Store.verifies, h]

/-- The entry being programmed is the head, WRITING (R146). -/
theorem Store.writingHead_eq_some (st : Store) (e : Commit) :
    st.writingHead = some e ↔ e.writing = true ∧ ∃ rest, st.commits = e :: rest := by
  unfold Store.writingHead
  split
  · simp_all
  · rename_i f rest h
    simp only [h, List.cons.injEq, exists_and_left, exists_eq', and_true, Option.ite_none_right_eq_some,
      Option.some.injEq]
    exact ⟨fun ⟨a, b⟩ => ⟨b ▸ a, b⟩, fun ⟨a, b⟩ => ⟨b ▸ a, b⟩⟩

end Sys2Proof.Machine
end

