-- ==== Sys2Proof/Laws/Engine.lean ====
section
/-! SUPPORT. The acquisition engine's sums point by point (R79, R82), and what a shot leaves as it was. -/

namespace Sys2Proof.Machine

/-- Two lists of sums added: every point holds the sum of its two points (R82). -/
theorem getD_addSums : ∀ (xs ys : List Nat) (i : Nat), (addSums xs ys).getD i 0 = xs.getD i 0 + ys.getD i 0
  | [], ys, i => by simp [addSums]
  | x :: xs, [], i => by simp [addSums]
  | x :: xs, y :: ys, 0 => by simp [addSums]
  | x :: xs, y :: ys, i + 1 => by
    have := getD_addSums xs ys i
    simpa [addSums] using this

/-- Two lists of flags joined: a point is set where it is set in either (R79). -/
theorem getD_orFlags :
    ∀ (xs ys : List Bool) (i : Nat), (orFlags xs ys).getD i false = (xs.getD i false || ys.getD i false)
  | [], ys, i => by simp [orFlags]
  | x :: xs, [], i => by simp [orFlags]
  | x :: xs, y :: ys, 0 => by simp [orFlags]
  | x :: xs, y :: ys, i + 1 => by
    have := getD_orFlags xs ys i
    simpa [orFlags] using this

/-- Sample i of a shot belongs to point i, for i below P (R79). -/
theorem getD_shotSamples (x : Samples) (n i : Nat) :
    (shotSamples x n).getD i 0 = if i < n then sampleAt x i else 0 := by
  by_cases h : i < n <;> simp [shotSamples, List.getD_eq_getElem?_getD, h]

/-- The points a shot clips (R79). -/
theorem getD_shotClips (x : Samples) (n i : Nat) :
    ((shotSamples x n).map (fun v => decide (v = 4095))).getD i false = decide (i < n ∧ sampleAt x i = 4095) := by
  by_cases h : i < n <;> simp [shotSamples, List.getD_eq_getElem?_getD, h]

/-- A shot's samples change the dark total, the sums and the clip flags alone (R79). -/
theorem Engine.addShot_eq (eng : Engine) (xs : List Nat) :
    eng.addShot xs = { eng with
      darkTotal := (eng.addShot xs).darkTotal, sums := (eng.addShot xs).sums, clips := (eng.addShot xs).clips } := by
  unfold Engine.addShot
  repeat' split
  all_goals rfl

@[simp] theorem Engine.addShot_state (eng : Engine) (xs : List Nat) : (eng.addShot xs).state = eng.state := by
  rw [Engine.addShot_eq]
@[simp] theorem Engine.addShot_kind (eng : Engine) (xs : List Nat) : (eng.addShot xs).kind = eng.kind := by
  rw [Engine.addShot_eq]
@[simp] theorem Engine.addShot_band (eng : Engine) (xs : List Nat) : (eng.addShot xs).band = eng.band := by
  rw [Engine.addShot_eq]
@[simp] theorem Engine.addShot_darks (eng : Engine) (xs : List Nat) : (eng.addShot xs).darks = eng.darks := by
  rw [Engine.addShot_eq]
@[simp] theorem Engine.addShot_traces (eng : Engine) (xs : List Nat) : (eng.addShot xs).traces = eng.traces := by
  rw [Engine.addShot_eq]

end Sys2Proof.Machine
end

