-- ==== Sys2Proof/Laws/Highway.lean ====
section
/-! SUPPORT. The blocks behind the highway do not read it: every shared operation, and every request but STATUS and
LINK RESET, gives the same with another highway interface in the state. And what moves the place of the frame, and
which requests 11.6 lists. -/

namespace Sys2Proof.Machine

/-! ### The place of the frame (R165, R166) -/

@[simp] theorem State.setFrame_frame (s : State) (f : FrameState) : (s.setFrame f).hw.frame = f := rfl
@[simp] theorem State.setFrame_tx (s : State) (f : FrameState) : (s.setFrame f).hw.tx = s.hw.tx := rfl
@[simp] theorem State.setFrame_link (s : State) (f : FrameState) (c : Client) : (s.setFrame f).link c = s.link c := rfl
theorem State.setFrame_setHw (s : State) (x : Highway) (f : FrameState) :
    (s.setHw x).setFrame f = s.setHw { x with frame := f } := rfl

/-- A sync at a bit of the frame confirms it, moves it, or moves it and cuts the slot's word (R166). -/
theorem State.resync_spec (s : State) (bit : Fin 128) :
    (bit.val = 0 → s.resync bit = s) ∧
      (bit.val ≠ 0 → bit.val % 32 = 0 → s.resync bit = s.setFrame .resynced) ∧
      (bit.val % 32 ≠ 0 → s.resync bit = (s.cutSlot (bitClient bit)).setFrame .resynced) := by
  refine ⟨fun h => if_pos h, fun h h' => ?_, fun h => ?_⟩
  · rw [State.resync, if_neg h, if_pos h']
  · rw [State.resync, if_neg (fun h' => h (by rw [h'])), if_neg h]

/-! ### Independence of the highway -/

theorem State.setPorts_setHw (s : State) (x : Highway) (y : Tab PortRecord 32) :
    (s.setHw x).setPorts y = (s.setPorts y).setHw x := rfl
theorem State.setQueue_setHw (s : State) (x : Highway) (y : TestQueue) :
    (s.setHw x).setQueue y = (s.setQueue y).setHw x := rfl
theorem State.setOffice_setHw (s : State) (x : Highway) (y : Office) :
    (s.setHw x).setOffice y = (s.setOffice y).setHw x := rfl
theorem State.setSel_setHw (s : State) (x : Highway) (y : Selector) :
    (s.setHw x).setSel y = (s.setSel y).setHw x := rfl
theorem State.setEng_setHw (s : State) (x : Highway) (y : Engine) :
    (s.setHw x).setEng y = (s.setEng y).setHw x := rfl
theorem State.setFaults_setHw (s : State) (x : Highway) (y : List FaultEntry) :
    (s.setHw x).setFaults y = (s.setFaults y).setHw x := rfl
theorem State.setStore_setHw (s : State) (x : Highway) (y : Store) :
    (s.setHw x).setStore y = (s.setStore y).setHw x := rfl
theorem State.setHold_setHw (s : State) (x : Highway) (y : HoldUnit) :
    (s.setHw x).setHold y = (s.setHold y).setHw x := rfl
theorem State.setPending_setHw (s : State) (x : Highway) (y : List Instr) :
    (s.setHw x).setPending y = (s.setPending y).setHw x := rfl
theorem State.setPort_setHw (s : State) (x : Highway) (p : PortNo) (r : PortRecord) :
    (s.setHw x).setPort p r = (s.setPort p r).setHw x := rfl

theorem State.drainPort_setHw (s : State) (x : Highway) (p : PortNo) :
    (s.setHw x).drainPort p = (s.drainPort p).setHw x := by
  unfold State.drainPort
  dsimp +instances only [State.setHw_queue, State.setHw_port]
  repeat' (first | rfl | split)

theorem State.drain_setHw (s : State) (x : Highway) :
    (s.setHw x).drain = (s.drain).setHw x := by
  have h : ∀ (l : List PortNo) (t : State),
      l.foldl State.drainPort (t.setHw x) = (l.foldl State.drainPort t).setHw x := by
    intro l
    induction l with
    | nil => intro t; rfl
    | cons p l ih => intro t; rw [List.foldl_cons, List.foldl_cons, State.drainPort_setHw, ih]
  exact h portList s

theorem State.writeResult_setHw (s : State) (x : Highway) (p : PortNo) (r : ResultRecord) :
    (s.setHw x).writeResult p r = (s.writeResult p r).setHw x := rfl

theorem State.depart_setHw (s : State) (x : Highway) (f : Entry → Bool) :
    (s.setHw x).depart f = (s.depart f).setHw x := by
  unfold State.depart
  dsimp +instances only [State.setHw_queue]
  repeat' (first | (simp only [State.setQueue_setHw, State.drain_setHw]; done) | split)

theorem State.discardWork_setHw (s : State) (x : Highway) :
    (s.setHw x).discardWork = (s.discardWork).setHw x := rfl

theorem State.enterHeld_setHw (s : State) (x : Highway) :
    (s.setHw x).enterHeld = (s.enterHeld).setHw x := rfl

theorem State.leaveTest_setHw (s : State) (x : Highway) :
    (s.setHw x).leaveTest = (s.leaveTest).setHw x := by
  unfold State.leaveTest
  dsimp +instances only [State.setHw_hold, State.setHw_eng]
  repeat' (first | rfl | split)

theorem State.admitConfirm_setHw (s : State) (x : Highway) (p : PortNo) :
    (s.setHw x).admitConfirm p = (s.admitConfirm p).setHw x := by
  unfold State.admitConfirm
  dsimp +instances only [State.setHw_port, State.setHw_queue]
  repeat' (first | rfl | split)

theorem State.endTest_setHw (s : State) (x : Highway) (st : Status) (c : Option Cause) (r : Report) (f : Bool) :
    (s.setHw x).endTest st c r f = (s.endTest st c r f).setHw x := by
  unfold State.endTest
  dsimp +instances only [State.setHw_queue, State.setHw_eng, State.setHw_office]
  repeat' (first | (simp only [State.setHw_queue, State.writeResult_setHw, State.setQueue_setHw, State.admitConfirm_setHw, State.drain_setHw, State.discardWork_setHw, State.leaveTest_setHw]; done) | split)

theorem State.cancelTest_setHw (s : State) (x : Highway) :
    (s.setHw x).cancelTest = (s.cancelTest).setHw x := by
  unfold State.cancelTest
  simp only [State.endTest_setHw]

theorem State.abort_setHw (s : State) (x : Highway) (c : Cause) :
    (s.setHw x).abort c = (s.abort c).setHw x := by
  unfold State.abort
  dsimp +instances only [State.setHw_queue]
  repeat' (first | rfl | (simp only [State.endTest_setHw]; done) | split)

theorem State.clearMark_setHw (s : State) (x : Highway) :
    (s.setHw x).clearMark = (s.clearMark).setHw x := rfl

theorem State.markRestart_setHw (s : State) (x : Highway) :
    (s.setHw x).markRestart = (s.markRestart).setHw x := by
  unfold State.markRestart
  dsimp +instances only [State.setHw_eng, State.setHw_hold]
  repeat' (first | rfl | split)

theorem State.beginBand_setHw (s : State) (x : Highway) (b : Band) :
    (s.setHw x).beginBand b = (s.beginBand b).setHw x := rfl

theorem State.beginLaserBlock_setHw (s : State) (x : Highway) :
    (s.setHw x).beginLaserBlock = (s.beginLaserBlock).setHw x := rfl

theorem State.park_setHw (s : State) (x : Highway) (p : ResumePoint) :
    (s.setHw x).park p = (s.park p).setHw x := rfl

theorem State.goOn_setHw (s : State) (x : Highway) (ri : RunInfo) :
    (s.setHw x).goOn ri = (s.goOn ri).setHw x := by
  unfold State.goOn
  dsimp +instances only [State.setHw_queue, State.setHw_eng, State.setHw_hold, State.setHw_sel]
  repeat' (first | rfl | (simp only [State.setQueue_setHw, State.setEng_setHw, State.clearMark_setHw, State.beginBand_setHw, State.beginLaserBlock_setHw]; done) | split)

theorem State.arrive_setHw (s : State) (x : Highway) :
    (s.setHw x).arrive = (s.arrive).setHw x := by
  unfold State.arrive
  dsimp +instances only [State.setHw_queue, State.setHw_hold, State.setHw_eng]
  repeat' (first | rfl | (simp only [State.clearMark_setHw, State.cancelTest_setHw, State.goOn_setHw, State.park_setHw]; done) | split)

theorem State.positionFailed_setHw (s : State) (x : Highway) :
    (s.setHw x).positionFailed = (s.positionFailed).setHw x := by
  unfold State.positionFailed
  simp only [State.clearMark_setHw, State.abort_setHw]

theorem State.heed_setHw (s : State) (x : Highway) (r : SelReport) :
    (s.setHw x).heed r = (s.heed r).setHw x := by
  cases r <;> unfold State.heed
  all_goals dsimp +instances only [State.setHw_eng]
  repeat' (first | rfl | (simp only [State.arrive_setHw, State.positionFailed_setHw, State.abort_setHw, State.markRestart_setHw]; done) | split)

theorem State.selEvent_setHw (s : State) (x : Highway) (r : Selector × SelReport) :
    (s.setHw x).selEvent r = (s.selEvent r).setHw x := by
  unfold State.selEvent
  simp only [State.setSel_setHw, State.heed_setHw]

theorem State.requestPosition_setHw (s : State) (x : Highway) (p : PortNo) :
    (s.setHw x).requestPosition p = (s.requestPosition p).setHw x := by
  unfold State.requestPosition
  simp only [State.selEvent_setHw, State.setHw_sel]

theorem State.resolve_setHw (s : State) (x : Highway) (p : PortNo) (k : Kind) :
    (s.setHw x).resolve p k = s.resolve p k := rfl

theorem State.startTest_setHw (s : State) (x : Highway) (e : Entry) (c : Client) :
    (s.setHw x).startTest e c = (s.startTest e c).setHw x := by
  unfold State.startTest
  simp only [State.setQueue_setHw, State.setEng_setHw, State.setStore_setHw, State.requestPosition_setHw, State.setHw_queue, State.setHw_eng, State.setHw_store, State.setHw_port, State.resolve_setHw]

theorem State.arbitrate_setHw (s : State) (x : Highway) :
    (s.setHw x).arbitrate = (s.arbitrate).setHw x := by
  have hc : (s.setHw x).choose = s.choose := rfl
  have hm : (s.setHw x).mayChoose = s.mayChoose := rfl
  simp only [State.arbitrate, hc, hm]
  split
  · split
    · exact State.startTest_setHw ..
    · rfl
  · rfl

theorem State.redrive_setHw (s : State) (x : Highway) :
    (s.setHw x).redrive = (s.redrive).setHw x := rfl

theorem State.releaseHold_setHw (s : State) (x : Highway) :
    (s.setHw x).releaseHold = (s.releaseHold).setHw x := by
  unfold State.releaseHold
  dsimp +instances only [State.setHw_eng, State.setHw_queue, State.setHw_hold, State.setHw_sel]
  repeat' (first | rfl | (simp only [State.setHold_setHw, State.setEng_setHw, State.clearMark_setHw, State.redrive_setHw, State.requestPosition_setHw]; done) | (simp only [State.setHold_setHw, State.setEng_setHw, State.clearMark_setHw, State.redrive_setHw, State.requestPosition_setHw]; rfl) | split)

theorem State.joinHold_setHw (s : State) (x : Highway) (c : Client) :
    (s.setHw x).joinHold c = (s.joinHold c).setHw x := by
  unfold State.joinHold
  dsimp +instances only [State.setHw_eng, State.setHw_hold]
  repeat' (first | rfl | split)

theorem State.leaveHold_setHw (s : State) (x : Highway) (c : Client) :
    (s.setHw x).leaveHold c = (s.leaveHold c).setHw x := by
  unfold State.leaveHold
  dsimp +instances only [State.setHw_hold, State.setHold_hold]
  repeat' (first | rfl | (simp only [State.setHold_setHw, State.releaseHold_setHw]; done) | split)

theorem State.detach_setHw (s : State) (x : Highway) :
    (s.setHw x).detach = (s.detach).setHw x := by
  unfold State.detach
  dsimp +instances only [State.setHw_eng]
  repeat' (first | rfl | (simp only [State.setEng_setHw, State.clearMark_setHw, State.discardWork_setHw, State.leaveTest_setHw]; done) | split)

theorem State.runsPort_setHw (s : State) (x : Highway) (p : PortNo) : (s.setHw x).runsPort p = s.runsPort p := rfl

theorem State.releasePort_setHw (s : State) (x : Highway) (p : PortNo) :
    (s.setHw x).releasePort p = (s.releasePort p).setHw x := by
  unfold State.releasePort
  dsimp +instances only [State.runsPort_setHw]
  repeat' (first | (simp only [State.setHw_faults, State.setHw_eng, State.setHw_queue, State.detach_setHw, State.setPort_setHw, State.setFaults_setHw, State.setEng_setHw, State.setQueue_setHw, State.depart_setHw]; done) | split)

/-! ### The requests as they are sent (11.6) -/

theorem noParams_eq_some (q r : Request) (ps : List Payload) : noParams q ps = some r ↔ ps = [] ∧ r = q := by
  unfold noParams
  split <;> simp_all [eq_comm]

theorem oneParam_eq_some (f : Payload → Request) (ps : List Payload) (r : Request) :
    oneParam f ps = some r ↔ ∃ a, ps = [a] ∧ r = f a := by
  unfold oneParam
  split <;> simp_all [eq_comm]

theorem twoParams_eq_some (f : Payload → Payload → Request) (ps : List Payload) (r : Request) :
    twoParams f ps = some r ↔ ∃ a b, ps = [a, b] ∧ r = f a b := by
  unfold twoParams
  split <;> simp_all [eq_comm]

/-- A code and parameters stand for a request exactly when 11.6 lists that request with them. -/
theorem requestOf_eq_some (code : Nat) (ps : List Payload) (r : Request) :
    requestOf code ps = some r ↔ r.wire = (code, ps) := by
  constructor
  · intro h
    unfold requestOf at h
    split at h <;> first
      | (obtain ⟨rfl, rfl⟩ := (noParams_eq_some _ _ _).mp h; rfl)
      | (obtain ⟨a, rfl, rfl⟩ := (oneParam_eq_some _ _ _).mp h; rfl)
      | (obtain ⟨a, b, rfl, rfl⟩ := (twoParams_eq_some _ _ _).mp h; rfl)
      | (unfold profileParams at h; split at h <;> cases h; rfl)
      | (unfold scheduleParams at h; split at h <;> cases h; rfl)
      | (unfold traceParams at h; split at h <;> cases h; rfl)
      | cases h
  · intro h
    cases r <;> cases h <;> rfl

end Sys2Proof.Machine
end

