-- ==== Sys2Proof/Laws/Operands.lean ====
section
/-! SUPPORT. What a request's parameters come to: port numbers and their claimants (R3), bands and kinds (R167), and
the hold set as a set. -/

namespace Sys2Proof.Machine

/-- A table with the value it has at a place put there again. -/
theorem Tab.put_at_self {α : Type} {n : Nat} (t : Tab α n) (i : Fin n) : t.put i (t.at i) = t := by
  apply Tab.ext
  intro j
  rw [Tab.at_put]
  split
  · subst_vars; rfl
  · rfl

/-- A port's record put back. -/
theorem State.setPort_self (s : State) (p : PortNo) : s.setPort p (s.port p) = s := by
  unfold State.setPort State.port
  rw [Tab.put_at_self]
  rfl

/-- A payload is the word of a small number exactly when it has its value. -/
theorem payload_eq_iff (v : Payload) (n : Nat) (h : n < 2 ^ 30) : v = BitVec.ofNat 30 n ↔ v.toNat = n := by
  constructor
  · rintro rfl
    simp
    omega
  · intro h2
    apply BitVec.eq_of_toNat_eq
    simp
    omega

/-- A parameter up to 31 is a port (R3). -/
theorem portOf_of_val (v : Payload) (p : PortNo) (h : v.toNat = p.val) : portOf v = some p := by
  have := p.isLt
  unfold portOf
  rw [dif_pos (by omega)]
  simp [h]

/-- A parameter above 31 is none (R3). -/
theorem portOf_eq_none (v : Payload) (h : 32 ≤ v.toNat) : portOf v = none := dif_neg (by omega)

/-- Checks 2 and 3 of R3 pass for the claimant. -/
theorem ownedPort_of_claimant (s : State) (c : Client) (v : Payload) (p : PortNo) (h : v.toNat = p.val)
    (hc : (s.port p).claimant = some c) : ownedPort s c v = .ok p := by
  unfold ownedPort
  rw [portOf_of_val v p h]
  exact if_pos hc

/-- Check 2 of R3. -/
theorem ownedPort_badPort (s : State) (c : Client) (v : Payload) (h : 32 ≤ v.toNat) :
    ownedPort s c v = .error .badPort := by
  unfold ownedPort
  rw [portOf_eq_none v h]

/-- Check 3 of R3. -/
theorem ownedPort_notOwner (s : State) (c : Client) (v : Payload) (p : PortNo) (h : v.toNat = p.val)
    (hc : (s.port p).claimant ≠ some c) : ownedPort s c v = .error .notOwner := by
  unfold ownedPort
  rw [portOf_of_val v p h]
  exact if_neg hc

/-- A port that passes R3's checks is the parameter's, and the client claims it. -/
theorem ownedPort_ok (s : State) (c : Client) (v : Payload) (p : PortNo) (h : ownedPort s c v = .ok p) :
    v.toNat = p.val ∧ (s.port p).claimant = some c := by
  unfold ownedPort portOf at h
  split at h
  · cases h
  · rename_i q hq
    split at hq
    · cases hq
      split at h
      · cases h
        rename_i hc
        exact ⟨rfl, hc⟩
      · cases h
    · cases hq

/-- A parameter that is a band (R167). -/
theorem bandOf_of_val (v : Payload) (b : Band) (h : b = .A ∧ v.toNat = 0 ∨ b = .B ∧ v.toNat = 1) :
    bandOf v = some b := by
  rcases h with ⟨rfl, h⟩ | ⟨rfl, h⟩
  · have : v = 0#30 := (payload_eq_iff v 0 (by norm_num)).2 h
    subst this
    rfl
  · have : v = 1#30 := (payload_eq_iff v 1 (by norm_num)).2 h
    subst this
    rfl

/-- A parameter that is no band (R167). -/
theorem bandOf_eq_none (v : Payload) (h : 2 ≤ v.toNat) : bandOf v = none := by
  have h0 : v ≠ 0#30 := by
    rintro rfl
    simp at h
  have h1 : v ≠ 1#30 := by
    rintro rfl
    simp at h
  simp [bandOf, h0, h1]

/-- The hold set is empty exactly when no client is in it (R156). -/
theorem HoldUnit.isEmpty_iff (h : HoldUnit) : h.isEmpty = true ↔ ∀ c, h.members.at c = false := by
  simp [HoldUnit.isEmpty, HoldUnit.list, clients]
  constructor
  · intro hh c
    fin_cases c <;> simp_all
  · intro hh
    simp [hh]

theorem HoldUnit.isEmpty_eq_false_iff (h : HoldUnit) : h.isEmpty = false ↔ ∃ c, h.members.at c = true := by
  rw [← Bool.not_eq_true, HoldUnit.isEmpty_iff]
  simp

/-- No two members of a list agree in a value that is listed without repeats. -/
theorem eq_of_nodup_map {α β : Type} (f : α → β) (l : List α) (h : (l.map f).Nodup) {a b : α} (ha : a ∈ l)
    (hb : b ∈ l) (he : f a = f b) : a = b := List.inj_on_of_nodup_map h ha hb he

end Sys2Proof.Machine
end

