-- ==== Sys2Proof/Laws/PerInstr.lean ====
section
/-! SUPPORT. What holds of every command as syntax: a command that is a request has a code of 11.6 and a message length
a header can give, and needs nothing of its operands to be well-formed. One lemma per constructor. -/

namespace Sys2Proof.Laws.RequestShape

/-- A command that is a request is well-formed whatever its operands, and its request's code and length are those of a
row of 11.6: codes 1 to 21, 1 to 16 words. -/
def Statement (i : Instr) : Prop :=
  ∀ r, i.request = some r → i.wellFormed = true ∧ 1 ≤ r.code ∧ r.code ≤ 21 ∧ 1 ≤ r.length ∧ r.length ≤ 16

/-- A command that is no request. -/
theorem of_none {i : Instr} (h : i.request = none) : Statement i := by
  intro r hr
  rw [h] at hr
  cases hr

/-- A command that is the request `r`. -/
theorem of_some {i : Instr} {r : Request} (h : i.request = some r)
    (hr : i.wellFormed = true ∧ 1 ≤ r.code ∧ r.code ≤ 21 ∧ 1 ≤ r.length ∧ r.length ≤ 16) : Statement i := by
  intro q hq
  rw [h] at hq
  cases hq
  exact hr

theorem powerOn : Statement (.powerOn) :=
  of_none rfl

theorem claim (c : Client) (tag : Tag) (port : Payload) : Statement (.claim c tag port) :=
  of_some rfl (by simp [Instr.wellFormed, Request.code, Request.length, Request.wire])

theorem release (c : Client) (tag : Tag) (port : Payload) : Statement (.release c tag port) :=
  of_some rfl (by simp [Instr.wellFormed, Request.code, Request.length, Request.wire])

theorem setProfile (c : Client) (tag : Tag) (port : Payload) (fields : ProfileWords) : Statement (.setProfile c tag port fields) :=
  of_some rfl (by simp [Instr.wellFormed, Request.code, Request.length, Request.wire])

theorem getProfile (c : Client) (tag : Tag) (port : Payload) : Statement (.getProfile c tag port) :=
  of_some rfl (by simp [Instr.wellFormed, Request.code, Request.length, Request.wire])

theorem getResult (c : Client) (tag : Tag) (port : Payload) : Statement (.getResult c tag port) :=
  of_some rfl (by simp [Instr.wellFormed, Request.code, Request.length, Request.wire])

theorem schedule (c : Client) (tag : Tag) (port kind band : Payload) : Statement (.schedule c tag port kind band) :=
  of_some rfl (by simp [Instr.wellFormed, Request.code, Request.length, Request.wire])

theorem cancel (c : Client) (tag : Tag) (ticket : Payload) : Statement (.cancel c tag ticket) :=
  of_some rfl (by simp [Instr.wellFormed, Request.code, Request.length, Request.wire])

theorem listQueue (c : Client) (tag : Tag) : Statement (.listQueue c tag) :=
  of_some rfl (by simp [Instr.wellFormed, Request.code, Request.length, Request.wire])

theorem setWindow (c : Client) (tag : Tag) (start stop : Payload) : Statement (.setWindow c tag start stop) :=
  of_some rfl (by simp [Instr.wellFormed, Request.code, Request.length, Request.wire])

theorem setClock (c : Client) (tag : Tag) (seconds : Payload) : Statement (.setClock c tag seconds) :=
  of_some rfl (by simp [Instr.wellFormed, Request.code, Request.length, Request.wire])

theorem clockAdvance : Statement (.clockAdvance) :=
  of_none rfl

theorem home (c : Client) (tag : Tag) : Statement (.home c tag) :=
  of_some rfl (by simp [Instr.wellFormed, Request.code, Request.length, Request.wire])

theorem getTrace (c : Client) (tag : Tag) (source port band first count : Payload) : Statement (.getTrace c tag source port band first count) :=
  of_some rfl (by simp [Instr.wellFormed, Request.code, Request.length, Request.wire])

theorem getTraceBaseline (c : Client) (tag : Tag) (port band first count : Payload) : Statement (.getTraceBaseline c tag port band first count) :=
  of_some rfl (by simp [Instr.wellFormed, Request.code, Request.length, Request.wire])

theorem getFindings (c : Client) (tag : Tag) (port first : Payload) : Statement (.getFindings c tag port first) :=
  of_some rfl (by simp [Instr.wellFormed, Request.code, Request.length, Request.wire])

theorem ackFinding (c : Client) (tag : Tag) (port entry : Payload) : Statement (.ackFinding c tag port entry) :=
  of_some rfl (by simp [Instr.wellFormed, Request.code, Request.length, Request.wire])

theorem deleteFinding (c : Client) (tag : Tag) (port entry : Payload) : Statement (.deleteFinding c tag port entry) :=
  of_some rfl (by simp [Instr.wellFormed, Request.code, Request.length, Request.wire])

theorem baselineInfo (c : Client) (tag : Tag) (port : Payload) : Statement (.baselineInfo c tag port) :=
  of_some rfl (by simp [Instr.wellFormed, Request.code, Request.length, Request.wire])

theorem eraseBaseline (c : Client) (tag : Tag) (port band : Payload) : Statement (.eraseBaseline c tag port band) :=
  of_some rfl (by simp [Instr.wellFormed, Request.code, Request.length, Request.wire])

theorem hold (c : Client) (tag : Tag) : Statement (.hold c tag) :=
  of_some rfl (by simp [Instr.wellFormed, Request.code, Request.length, Request.wire])

theorem resume (c : Client) (tag : Tag) : Statement (.resume c tag) :=
  of_some rfl (by simp [Instr.wellFormed, Request.code, Request.length, Request.wire])

theorem status (c : Client) (tag : Tag) : Statement (.status c tag) :=
  of_some rfl (by simp [Instr.wellFormed, Request.code, Request.length, Request.wire])

theorem linkReset (c : Client) (tag : Tag) : Statement (.linkReset c tag) :=
  of_some rfl (by simp [Instr.wellFormed, Request.code, Request.length, Request.wire])

theorem inboundWord (c : Client) (w : Word) : Statement (.inboundWord c w) :=
  of_none rfl

theorem malformed (c : Client) (ws : List Word) : Statement (.malformed c ws) :=
  of_none rfl

theorem overrun (c : Client) (ws : List Word) : Statement (.overrun c ws) :=
  of_none rfl

theorem outboundSlot (c : Client) : Statement (.outboundSlot c) :=
  of_none rfl

theorem frameSync (bit : Fin 128) : Statement (.frameSync bit) :=
  of_none rfl

theorem highwayLoss : Statement (.highwayLoss) :=
  of_none rfl

theorem losEdge (p : PortNo) : Statement (.losEdge p) :=
  of_none rfl

theorem encoderCount (e : EncoderEdge) : Statement (.encoderCount e) :=
  of_none rfl

theorem encoderError : Statement (.encoderError) :=
  of_none rfl

theorem indexEdge : Statement (.indexEdge) :=
  of_none rfl

theorem moveTimeout : Statement (.moveTimeout) :=
  of_none rfl

theorem settleExpiry : Statement (.settleExpiry) :=
  of_none rfl

theorem homingTimeout : Statement (.homingTimeout) :=
  of_none rfl

theorem shot (x : Samples) : Statement (.shot x) :=
  of_none rfl

theorem darkBlockBoundary (x : Samples) : Statement (.darkBlockBoundary x) :=
  of_none rfl

theorem laserBlockBoundary (x : Samples) : Statement (.laserBlockBoundary x) :=
  of_none rfl

theorem drainedBlockBoundary (x : Samples) : Statement (.drainedBlockBoundary x) :=
  of_none rfl

theorem analysisEnd : Statement (.analysisEnd) :=
  of_none rfl

theorem programmingEnd (r : Machine.ReadBack) : Statement (.programmingEnd r) :=
  of_none rfl

theorem holdTimerExpiry : Statement (.holdTimerExpiry) :=
  of_none rfl

theorem highwayReturn : Statement (.highwayReturn) :=
  of_none rfl

theorem frameAlignment : Statement (.frameAlignment) :=
  of_none rfl

end Sys2Proof.Laws.RequestShape
end

