-- ==== Sys2Proof/Laws/Requests.lean ====
section
/-! SUPPORT. The requests and the highway: what a block does with a request does not depend on the highway, and a
request that is taken leaves its client's link answered. -/

namespace Sys2Proof.Machine

theorem ownedPort_setHw (s : State) (x : Highway) (c : Client) (v : Payload) :
    ownedPort (s.setHw x) c v = ownedPort s c v := rfl

theorem doClaim_setHw (c : Client) (port : Payload) (s : State) (x : Highway) :
    doClaim c port (s.setHw x) = ((doClaim c port s).1, (doClaim c port s).2.setHw x) := by
  unfold doClaim
  dsimp +instances only [State.setHw_port]
  repeat' (first | rfl | split)

theorem doRelease_setHw (c : Client) (port : Payload) (s : State) (x : Highway) :
    doRelease c port (s.setHw x) = ((doRelease c port s).1, (doRelease c port s).2.setHw x) := by
  unfold doRelease
  dsimp +instances only [ownedPort_setHw]
  repeat' (first | rfl | (simp only [State.releasePort_setHw, State.arbitrate_setHw]; done) | split)

theorem doSetProfile_setHw (c : Client) (port : Payload) (f : ProfileWords) (s : State) (x : Highway) :
    doSetProfile c port f (s.setHw x) = ((doSetProfile c port f s).1, (doSetProfile c port f s).2.setHw x) := by
  unfold doSetProfile
  dsimp +instances only [ownedPort_setHw, State.setHw_port]
  repeat' (first | rfl | split)

theorem doGetProfile_setHw (c : Client) (port : Payload) (s : State) (x : Highway) :
    doGetProfile c port (s.setHw x) = ((doGetProfile c port s).1, (doGetProfile c port s).2.setHw x) := by
  unfold doGetProfile
  dsimp +instances only [ownedPort_setHw, State.setHw_port]
  repeat' (first | rfl | split)

theorem doGetResult_setHw (c : Client) (port : Payload) (s : State) (x : Highway) :
    doGetResult c port (s.setHw x) = ((doGetResult c port s).1, (doGetResult c port s).2.setHw x) := by
  unfold doGetResult
  dsimp +instances only [ownedPort_setHw, State.setHw_port]
  repeat' (first | rfl | split)

theorem State.scheduleNew_setHw (s : State) (x : Highway) (c : Client) (p : PortNo) (k : Kind) :
    (s.setHw x).scheduleNew c p k = ((s.scheduleNew c p k).1, (s.scheduleNew c p k).2.setHw x) := by
  unfold State.scheduleNew
  dsimp +instances only [State.setHw_queue]
  repeat' (first | rfl | (simp only [State.setQueue_setHw, State.arbitrate_setHw]; done) | split)

theorem State.scheduleKind_setHw (s : State) (x : Highway) (c : Client) (p : PortNo) (k : Kind) :
    (s.setHw x).scheduleKind c p k = ((s.scheduleKind c p k).1, (s.scheduleKind c p k).2.setHw x) := by
  unfold State.scheduleKind
  dsimp +instances only [State.setHw_queue]
  repeat' (first | rfl | (simp only [State.setQueue_setHw, State.arbitrate_setHw, State.scheduleNew_setHw]; done) | split)

theorem doSchedule_setHw (c : Client) (port kind band : Payload) (s : State) (x : Highway) :
    doSchedule c port kind band (s.setHw x) = ((doSchedule c port kind band s).1, (doSchedule c port kind band s).2.setHw x) := by
  unfold doSchedule
  dsimp +instances only [ownedPort_setHw]
  repeat' (first | rfl | (simp only [State.scheduleKind_setHw]; done) | split)

theorem State.cancelQueued_setHw (s : State) (x : Highway) (e : Entry) :
    (s.setHw x).cancelQueued e = (s.cancelQueued e).setHw x := by
  unfold State.cancelQueued
  simp only [State.setHw_office, State.writeResult_setHw, State.depart_setHw]

theorem State.cancelRunning_setHw (s : State) (x : Highway) (ri : RunInfo) :
    (s.setHw x).cancelRunning ri = ((s.cancelRunning ri).1, (s.cancelRunning ri).2.setHw x) := by
  unfold State.cancelRunning
  dsimp +instances only [State.setHw_eng]
  repeat' (first | rfl | (simp only [State.clearMark_setHw, State.cancelTest_setHw, State.arbitrate_setHw]; done) | split)

theorem doCancel_setHw (c : Client) (ticket : Payload) (s : State) (x : Highway) :
    doCancel c ticket (s.setHw x) = ((doCancel c ticket s).1, (doCancel c ticket s).2.setHw x) := by
  unfold doCancel
  dsimp +instances only [State.setHw_queue]
  repeat' (first | (simp only [State.cancelQueued_setHw, State.arbitrate_setHw, State.cancelRunning_setHw]; done) | split)

theorem State.latchWord_setHw (s : State) (x : Highway) (c : Client) (n : Nat) :
    (s.setHw x).latchWord c n = s.latchWord c n := rfl

theorem doListQueue_setHw (c : Client) (s : State) (x : Highway) :
    doListQueue c (s.setHw x) = ((doListQueue c s).1, (doListQueue c s).2.setHw x) := by
  unfold doListQueue
  rfl

theorem doSetClock_setHw (seconds : Payload) (s : State) (x : Highway) :
    doSetClock seconds (s.setHw x) = ((doSetClock seconds s).1, (doSetClock seconds s).2.setHw x) := by
  unfold doSetClock
  dsimp +instances only [State.setHw_office]
  repeat' (first | rfl | (simp only [State.setOffice_setHw, State.arbitrate_setHw]; done) | split)

theorem doSetWindow_setHw (c : Client) (start stop : Payload) (s : State) (x : Highway) :
    doSetWindow c start stop (s.setHw x) = ((doSetWindow c start stop s).1, (doSetWindow c start stop s).2.setHw x) := by
  unfold doSetWindow
  dsimp +instances only [State.setHw_office]
  repeat' (first | rfl | (simp only [State.setOffice_setHw, State.arbitrate_setHw]; done) | split)

theorem State.answerLast_setHw (s : State) (x : Highway) (p : PortNo) (b : Band) (first count : Payload) :
    (s.setHw x).answerLast p b first count = s.answerLast p b first count := rfl

theorem State.answerBaseline_setHw (s : State) (x : Highway) (p : PortNo) (b : Band) (first count : Payload) :
    (s.setHw x).answerBaseline p b first count = s.answerBaseline p b first count := rfl

theorem doGetTrace_setHw (c : Client) (source port band first count : Payload) (s : State) (x : Highway) :
    doGetTrace c source port band first count (s.setHw x) = ((doGetTrace c source port band first count s).1, (doGetTrace c source port band first count s).2.setHw x) := by
  unfold doGetTrace
  dsimp +instances only [ownedPort_setHw, State.answerLast_setHw, State.answerBaseline_setHw]
  repeat' (first | rfl | split)

theorem State.faultsOf_setHw (s : State) (x : Highway) (p : PortNo) : (s.setHw x).faultsOf p = s.faultsOf p := rfl

theorem State.faultById_setHw (s : State) (x : Highway) (p : PortNo) (id : Nat) :
    (s.setHw x).faultById p id = s.faultById p id := rfl

theorem doGetFindings_setHw (c : Client) (port first : Payload) (s : State) (x : Highway) :
    doGetFindings c port first (s.setHw x) = ((doGetFindings c port first s).1, (doGetFindings c port first s).2.setHw x) := by
  unfold doGetFindings
  dsimp +instances only [ownedPort_setHw, State.faultsOf_setHw, State.setHw_port, State.setHw_faults]
  repeat' (first | rfl | split)

theorem doAckFinding_setHw (c : Client) (port entry : Payload) (s : State) (x : Highway) :
    doAckFinding c port entry (s.setHw x) = ((doAckFinding c port entry s).1, (doAckFinding c port entry s).2.setHw x) := by
  unfold doAckFinding
  dsimp +instances only [ownedPort_setHw, State.faultById_setHw, State.setHw_faults]
  repeat' (first | rfl | split)

theorem doDeleteFinding_setHw (c : Client) (port entry : Payload) (s : State) (x : Highway) :
    doDeleteFinding c port entry (s.setHw x) = ((doDeleteFinding c port entry s).1, (doDeleteFinding c port entry s).2.setHw x) := by
  unfold doDeleteFinding
  dsimp +instances only [ownedPort_setHw, State.faultById_setHw, State.setHw_faults]
  repeat' (first | rfl | split)

theorem State.slotInfo_setHw (s : State) (x : Highway) (p : PortNo) (b : Band) :
    (s.setHw x).slotInfo p b = s.slotInfo p b := rfl

theorem doBaselineInfo_setHw (c : Client) (port : Payload) (s : State) (x : Highway) :
    doBaselineInfo c port (s.setHw x) = ((doBaselineInfo c port s).1, (doBaselineInfo c port s).2.setHw x) := by
  unfold doBaselineInfo
  dsimp +instances only [ownedPort_setHw, State.slotInfo_setHw, State.setHw_store]
  repeat' (first | rfl | split)

theorem State.eraseSlot_setHw (s : State) (x : Highway) (slot : Fin 64) :
    (s.setHw x).eraseSlot slot = ((s.eraseSlot slot).1, (s.eraseSlot slot).2.setHw x) := by
  unfold State.eraseSlot
  dsimp +instances only [State.setHw_store]
  repeat' (first | rfl | (simp only [State.setStore_setHw, State.arbitrate_setHw]; done) | split)

theorem doEraseBaseline_setHw (c : Client) (port band : Payload) (s : State) (x : Highway) :
    doEraseBaseline c port band (s.setHw x) = ((doEraseBaseline c port band s).1, (doEraseBaseline c port band s).2.setHw x) := by
  unfold doEraseBaseline
  dsimp +instances only [ownedPort_setHw]
  repeat' (first | rfl | (simp only [State.eraseSlot_setHw]; done) | split)

theorem State.holdAnswer_setHw (s : State) (x : Highway) : (s.setHw x).holdAnswer = s.holdAnswer := rfl

theorem doHold_setHw (c : Client) (s : State) (x : Highway) :
    doHold c (s.setHw x) = ((doHold c s).1, (doHold c s).2.setHw x) := by
  unfold doHold
  simp only [State.joinHold_setHw, State.holdAnswer_setHw]

theorem State.resumeFrom_setHw (s : State) (x : Highway) (c : Client) :
    (s.setHw x).resumeFrom c = (s.resumeFrom c).setHw x := by
  unfold State.resumeFrom
  simp only [State.setHw_hold, State.leaveHold_setHw, State.arbitrate_setHw]
  split <;> rfl

theorem doResume_setHw (c : Client) (s : State) (x : Highway) :
    doResume c (s.setHw x) = ((doResume c s).1, (doResume c s).2.setHw x) := by
  unfold doResume
  simp only [State.resumeFrom_setHw, State.holdAnswer_setHw]

theorem State.homeAllowed_setHw (s : State) (x : Highway) : (s.setHw x).homeAllowed = s.homeAllowed := rfl

theorem doHome_setHw (s : State) (x : Highway) : doHome (s.setHw x) = ((doHome s).1, (doHome s).2.setHw x) := by
  unfold doHome
  dsimp +instances only [State.homeAllowed_setHw, State.setHw_sel]
  repeat' (first | rfl | (simp only [State.setSel_setHw, State.markRestart_setHw, State.arbitrate_setHw]; done) | split)

/-- What a block answers, and what it does, does not depend on the highway; STATUS and LINK RESET act on their link as
well. -/
theorem handle_setHw (c : Client) (r : Request) (s : State) (x : Highway) (hs : r ≠ .status) (hl : r ≠ .linkReset) :
    handle c r (s.setHw x) = ((handle c r s).1, (handle c r s).2.setHw x) := by
  cases r
  case claim => exact doClaim_setHw ..
  case release => exact doRelease_setHw ..
  case setProfile => exact doSetProfile_setHw ..
  case getProfile => exact doGetProfile_setHw ..
  case getResult => exact doGetResult_setHw ..
  case schedule => exact doSchedule_setHw ..
  case cancel => exact doCancel_setHw ..
  case listQueue => exact doListQueue_setHw ..
  case setWindow => exact doSetWindow_setHw ..
  case setClock => exact doSetClock_setHw ..
  case home => exact doHome_setHw ..
  case getTrace => exact doGetTrace_setHw ..
  case getFindings => exact doGetFindings_setHw ..
  case ackFinding => exact doAckFinding_setHw ..
  case deleteFinding => exact doDeleteFinding_setHw ..
  case baselineInfo => exact doBaselineInfo_setHw ..
  case eraseBaseline => exact doEraseBaseline_setHw ..
  case hold => exact doHold_setHw ..
  case resume => exact doResume_setHw ..
  case status => exact absurd rfl hs
  case linkReset => exact absurd rfl hl

/-! ### The link of a request that is taken -/

@[simp] theorem Link.wordGone_pending (l : Link) : l.wordGone.pending = l.pending := by
  unfold Link.wordGone
  split <;> rfl

@[simp] theorem State.slotEnd_frame (s : State) : s.slotEnd.hw.frame = s.hw.frame := by
  unfold State.slotEnd Highway.slotEnd
  split <;> simp

@[simp] theorem State.slotEnd_tx (s : State) : s.slotEnd.hw.tx = none := by
  unfold State.slotEnd Highway.slotEnd
  split <;> simp_all

theorem State.slotEnd_link (s : State) (d : Client) :
    s.slotEnd.link d = s.link d ∨ s.slotEnd.link d = (s.link d).wordGone := by
  unfold State.slotEnd Highway.slotEnd State.link
  split
  · exact .inl rfl
  · rename_i t _
    by_cases h : t.client = d
    · subst h; exact .inr (by simp)
    · exact .inl (by simp [Tab.at_put_ne _ _ h])

theorem State.slotEnd_pendingRequest (s : State) (d : Client) : (s.slotEnd.link d).pending = (s.link d).pending := by
  rcases s.slotEnd_link d with h | h <;> simp [h]

theorem State.slotEnd_eq (s : State) : s.slotEnd = s.setHw s.slotEnd.hw := rfl

theorem State.messageEnd_eq (s : State) (c : Client) (single : Bool) :
    s.messageEnd c single = s.setHw (s.messageEnd c single).hw := rfl

theorem State.messageEnd_link (s : State) (c : Client) (single : Bool) :
    (s.messageEnd c single).link c = s.linkAfter c single := by
  simp [State.messageEnd, State.linkAfter]

theorem State.messageEnd_pendingRequest (s : State) (c : Client) (single : Bool) :
    ((s.messageEnd c single).link c).pending = (s.link c).pending := by
  rw [State.messageEnd_link]
  exact s.slotEnd_pendingRequest c

/-- A request that is taken, and neither STATUS nor LINK RESET: its link is answered, and the rest of the state is what
the block made of it (R171). -/
theorem State.takeRequest_answered (s : State) (c : Client) (tag : Tag) (r : Request) (h : s.takes c)
    (hs : r ≠ .status) (hl : r ≠ .linkReset) :
    Answered s (s.takeRequest c tag r) c (s.linkAfter c (decide (r.length = 1))) r.code tag (handle c r s).1 ∧
      s.takeRequest c tag r = (handle c r s).2.setHw (s.takeRequest c tag r).hw := by
  obtain ⟨hf, hp⟩ := h
  have hh := handle_setHw c r s (s.messageEnd c (decide (r.length = 1))).hw hs hl
  have ht : s.takeRequest c tag r =
      ((handle c r s).2.setHw (s.messageEnd c (decide (r.length = 1))).hw).respond c r.code tag (handle c r s).1 := by
    unfold State.takeRequest
    rw [if_pos hf]
    unfold State.deliver
    rw [State.messageEnd_pendingRequest, hp, if_neg (by simp)]
    rw [← State.messageEnd_eq] at hh
    rw [hh]
  rw [ht]
  have hlk : ∀ d, ((handle c r s).2.setHw (s.messageEnd c (decide (r.length = 1))).hw).link d =
      (s.messageEnd c (decide (r.length = 1))).link d := fun _ => rfl
  refine ⟨⟨?_, ?_, ?_, ?_⟩, rfl⟩
  · simp [State.respond, State.messageEnd]
  · simp [State.respond, State.messageEnd]
  · intro d hd
    unfold State.respond
    rw [State.setLink_link_ne _ _ (Ne.symm hd), hlk]
    unfold State.messageEnd
    rw [State.setLink_link_ne _ _ (Ne.symm hd)]
  · unfold State.respond
    rw [State.setLink_link_same, hlk, State.messageEnd_link]
    rfl

/-- A request while one is pending, and not a LINK RESET: discarded, with OVERRUN set (R171 case 2). -/
theorem State.takeRequest_overrun (s : State) (c : Client) (tag : Tag) (r : Request) (hf : s.hw.frame = .aligned)
    (hp : (s.link c).pending.isSome = true) (hl : r ≠ .linkReset) :
    s.takeRequest c tag r = (s.messageEnd c (decide (r.length = 1))).overrunOn c := by
  unfold State.takeRequest State.deliver
  rw [if_pos hf, State.messageEnd_pendingRequest, if_pos ⟨hp, hl⟩]

/-- Without a frame nothing is taken (R165). -/
theorem State.takeRequest_noFrame (s : State) (c : Client) (tag : Tag) (r : Request) (hf : s.hw.frame ≠ .aligned) :
    s.takeRequest c tag r = s := if_neg hf

end Sys2Proof.Machine
end

