-- ==== Sys2Proof/Laws/Selector.lean ====
section
/-! SUPPORT. What the selector's operations leave as it was, the distances of R55 in numbers, and the entry points of
the selector's operations case by case. -/

namespace Sys2Proof.Machine

/-! ### Counts and distances (R55, R56) -/

@[simp] theorem Selector.counted_count (x : Selector) (d : Dir) : (x.counted d).count = countStep x.count d := rfl
@[simp] theorem Selector.counted_dir (x : Selector) (d : Dir) : (x.counted d).dir = d := rfl
@[simp] theorem Selector.counted_state (x : Selector) (d : Dir) : (x.counted d).state = x.state := rfl
@[simp] theorem Selector.counted_target (x : Selector) (d : Dir) : (x.counted d).target = x.target := rfl
@[simp] theorem Selector.counted_pendingTarget (x : Selector) (d : Dir) :
    (x.counted d).pendingTarget = x.pendingTarget := rfl

/-- The distance of a count from a port's target position in numbers (R55). -/
theorem countDistance_target (a : Fin 2048) (p : PortNo) :
    countDistance a (targetCount p) =
      min ((a.val + 2048 - 64 * p.val) % 2048) ((64 * p.val + 2048 - a.val) % 2048) := by
  simp only [countDistance, targetCount, Fin.sub_def]
  have := a.isLt
  have := p.isLt
  omega

/-- The distance is 0 exactly at the target position (R55). -/
theorem countDistance_target_eq_zero (a : Fin 2048) (p : PortNo) :
    countDistance a (targetCount p) = 0 ↔ a = targetCount p := by
  simp only [countDistance, targetCount, Fin.sub_def, Fin.ext_iff]
  have := a.isLt
  have := p.isLt
  omega

/-- "Within ±2 of 0" (R55). -/
theorem Selector.nearIndex_iff (x : Selector) : x.nearIndex = true ↔ x.count.val ∈ [2046, 2047, 0, 1, 2] := by
  have h := x.count.isLt
  simp only [Selector.nearIndex, countDistance, Fin.sub_def, List.mem_cons, List.not_mem_nil, or_false]
  simp
  omega

/-- Count 0 is the position of port 0 and lies more than 1 from every other port's (R55). -/
theorem zero_offTarget_iff (p : PortNo) : 1 < countDistance 0 (targetCount p) ↔ p ≠ 0 := by
  revert p
  decide

theorem zero_eq_target_iff (p : PortNo) : (0 : Fin 2048) = targetCount p ↔ p = 0 := by
  revert p
  decide

/-! ### Counts kept -/

@[simp] theorem Selector.beginMove_count (x : Selector) (p : PortNo) : (x.beginMove p).count = x.count := rfl
@[simp] theorem Selector.beginMove_dir (x : Selector) (p : PortNo) : (x.beginMove p).dir = x.dir := rfl
@[simp] theorem Selector.beginMove_target (x : Selector) (p : PortNo) : (x.beginMove p).target = some p := rfl
/-- A move begins in SETTLING or MOVING (R60). -/
theorem Selector.beginMove_state (x : Selector) (p : PortNo) :
    (x.beginMove p).state = .settling ∨ (x.beginMove p).state = .moving := by
  simp only [Selector.beginMove]
  split <;> simp
@[simp] theorem Selector.beginHoming_count (x : Selector) (p : Option PortNo) : (x.beginHoming p).count = x.count := rfl
@[simp] theorem Selector.beginHoming_dir (x : Selector) (p : Option PortNo) : (x.beginHoming p).dir = x.dir := rfl
@[simp] theorem Selector.failMove_count (x : Selector) : x.failMove.count = x.count := rfl
@[simp] theorem Selector.failMove_dir (x : Selector) : x.failMove.dir = x.dir := rfl

@[simp] theorem Selector.matchCheck_count (x : Selector) : x.matchCheck.count = x.count := by
  unfold Selector.matchCheck
  (repeat' split) <;> rfl
@[simp] theorem Selector.matchCheck_dir (x : Selector) : x.matchCheck.dir = x.dir := by
  unfold Selector.matchCheck
  (repeat' split) <;> rfl
@[simp] theorem Selector.matchCheck_target (x : Selector) : x.matchCheck.target = x.target := by
  unfold Selector.matchCheck
  (repeat' split) <;> rfl
@[simp] theorem Selector.settleCheck_count (x : Selector) : x.settleCheck.count = x.count := by
  unfold Selector.settleCheck
  split <;> rfl
@[simp] theorem Selector.settleCheck_dir (x : Selector) : x.settleCheck.dir = x.dir := by
  unfold Selector.settleCheck
  split <;> rfl
@[simp] theorem Selector.settleCheck_target (x : Selector) : x.settleCheck.target = x.target := by
  unfold Selector.settleCheck
  split <;> rfl
@[simp] theorem Selector.disturbanceCheck_count (x : Selector) (h : Bool) :
    (x.disturbanceCheck h).1.count = x.count := by
  unfold Selector.disturbanceCheck
  (repeat' split) <;> rfl
@[simp] theorem Selector.disturbanceCheck_dir (x : Selector) (h : Bool) : (x.disturbanceCheck h).1.dir = x.dir := by
  unfold Selector.disturbanceCheck
  (repeat' split) <;> rfl

/-- Every edge moves the count by one and rewrites the direction flag, whatever the selector's state (R56). -/
theorem Selector.takeCount_count (x : Selector) (d : Dir) (h : Bool) :
    (x.takeCount d h).1.count = countStep x.count d := by
  unfold Selector.takeCount
  repeat' (first | split | (dsimp only; split))
  all_goals simp
theorem Selector.takeCount_dir (x : Selector) (d : Dir) (h : Bool) : (x.takeCount d h).1.dir = d := by
  unfold Selector.takeCount
  repeat' (first | split | (dsimp only; split))
  all_goals simp

@[simp] theorem Selector.request_count (x : Selector) (p : PortNo) : (x.request p).1.count = x.count := by
  unfold Selector.request
  repeat' split
  all_goals simp
@[simp] theorem Selector.request_dir (x : Selector) (p : PortNo) : (x.request p).1.dir = x.dir := by
  unfold Selector.request
  repeat' split
  all_goals simp

/-- The chosen test's request is all the selector sees of the choice (R33, R59). -/
theorem State.startTest_sel (s : State) (e : Entry) (c : Client) :
    (s.startTest e c).sel = (s.sel.request e.port).1 := by
  simp [State.startTest, State.requestPosition, State.selEvent]

/-- The arbiter's choice moves no count (R59). -/
@[simp] theorem State.arbitrate_count (s : State) : s.arbitrate.sel.count = s.sel.count := by
  unfold State.arbitrate
  repeat' split
  all_goals simp [State.startTest_sel]
@[simp] theorem State.arbitrate_dir (s : State) : s.arbitrate.sel.dir = s.sel.dir := by
  unfold State.arbitrate
  repeat' split
  all_goals simp [State.startTest_sel]

end Sys2Proof.Machine
end

