-- ==== Sys2Proof/Tests/Slice0.lean ====
section
/-! SUPPORT. Tests: ill-formed commands that the check refuses, request words written out from R167 and 11.6, worked
examples of the manual, and for every statement with hypotheses a state and operands that meet them (`witness_…`). -/

namespace Sys2Proof.Tests

open Sys2Proof.Machine

/-! ### Small states -/

/-- The state after reset with the frame aligned. -/
def up : State := State.reset.setHw { State.reset.hw with frame := .aligned }

/-- `s` with port p claimed by client c. -/
def owned (s : State) (p : PortNo) (c : Client) : State := s.setPort p { s.port p with claimant := some c }

/-- Port 7 claimed by client 0. -/
def tenant : State := owned up 7 0

/-- A test entry of port 7 and client 0. -/
def entry (ticket : Nat) (k : Kind) (run : Option RunInfo) : Entry :=
  { ticket := ticket, client := 0, port := 7, kind := k, origin := .request, run := run }

/-- The RUNNING fields of a test with both bands planned and nothing done. -/
def fresh : RunInfo := { plan := ⟨true, true⟩, done := ⟨false, false⟩, suspended := false, cancelPending := false }

/-- `s` with these entries in the queue. -/
def queued (s : State) (es : List Entry) : State := s.setQueue { s.queue with entries := es }

/-- The selector in a state, with a count and a target. -/
def selAt (st : SelState) (count : Fin 2048) (target : Option PortNo) : Selector :=
  { Selector.reset with state := st, count := count, target := target, homingTimer := none }

/-- The snapshot of the default profile. -/
def sn : Snapshot := Profile.default.snapshot

/-- Test 1 of port 7 in hand, with the selector SETTLED there and the engine in a state, in a block of a kind. -/
def busy (st : EngState) (k : BlockKind) (counter : Nat) (ri : RunInfo) : State :=
  ((queued tenant [entry 1 .urgent (some ri)]).setSel (selAt .settled 448 (some 7))).setEng
    { Engine.reset with
      state := st, hand := .entry 1, snap := some sn, band := some .B, kind := k, counter := counter,
      sampling := true }

/-- `s` with client c in the hold set. -/
def holding (s : State) (c : Client) : State := s.setHold { s.hold with members := s.hold.members.put c true }

/-- `s` with client 0's request pending and these response words, `n` of them sent. -/
def answering (s : State) (ws : List Word) (n : Nat) : State :=
  s.setLink 0 { s.link 0 with pending := some { code := 20, tag := 5#15 }, response := ws, sent := n }

/-- The state after a command, or the state itself where it stops. -/
def after (i : Instr) (s : State) : State :=
  match exec i s with
  | .next t => t
  | .fault _ => s
  | .refused _ => s

/-! ### Ill-formed commands -/

/-- A header of length 2 with one word is no message (R167, R170). -/
theorem test_malformed_short_message_refused : (Instr.malformed 0 [requestHeader 2 1 0#15]).wellFormed = false := by
  decide

/-- A completed message has words. -/
theorem test_malformed_no_words_refused : (Instr.malformed 0 []).wellFormed = false := by decide

/-- The message of a listed request is not MALFORMED (R171). -/
theorem test_malformed_listed_request_refused :
    (Instr.malformed 0 [requestHeader 2 1 0#15, dataWord 3#30]).wellFormed = false := by decide

/-- A message's later words are DATA words (R170). -/
theorem test_malformed_header_inside_refused :
    (Instr.malformed 0 [requestHeader 2 31 0#15, requestHeader 1 20 0#15]).wellFormed = false := by decide

/-- A LINK RESET is taken while a request is pending, so it is no OVERRUN (R171). -/
theorem test_overrun_link_reset_refused : (Instr.overrun 0 [requestHeader 1 21 0#15]).wellFormed = false := by decide

/-- An overrun message is a message. -/
theorem test_overrun_data_word_refused : (Instr.overrun 0 [dataWord 0#30]).wellFormed = false := by decide

/-- A shot has at most 16,384 samples (R9, R79), for SHOT and each boundary. -/
theorem test_sample_index_refused :
    (Instr.shot ⟨0#12, [(16384, 1#12)]⟩).wellFormed = false ∧
      (Instr.darkBlockBoundary ⟨0#12, [(16384, 1#12)]⟩).wellFormed = false ∧
      (Instr.laserBlockBoundary ⟨0#12, [(16384, 1#12)]⟩).wellFormed = false ∧
      (Instr.drainedBlockBoundary ⟨0#12, [(16384, 1#12)]⟩).wellFormed = false := by decide

/-- The last sample of the longest shot is well-formed. -/
theorem test_sample_index_accepted : (Instr.shot ⟨0#12, [(16383, 1#12)]⟩).wellFormed = true := by decide

/-! ### Words of 11.6 and R167, bit by bit -/

/-- A CLAIM: type 01, length 2 as 0001, code 00001, bits 20 to 15 unexamined, tag 5; then port 31. -/
theorem test_decode_claim :
    decodeMessage [0b01_0001_00001_111111_000000000000101#32, 0b10_000000000000000000000000011111#32] =
      some (.claim 31#30) := by decide

/-- Tag and length of that header. -/
theorem test_decode_claim_header :
    headerTag 0b01_0001_00001_111111_000000000000101#32 = 5#15 ∧
      headerLength 0b01_0001_00001_111111_000000000000101#32 = 2 ∧
      wordType 0b01_0001_00001_111111_000000000000101#32 = .header := by decide

/-- A SCHEDULE BASELINE of port 5, band A: code 6, four words. -/
theorem test_decode_schedule :
    decodeMessage [0b01_0011_00110_000000_000000000000001#32, 0b10_000000000000000000000000000101#32,
      0b10_000000000000000000000000000010#32, 0b10_000000000000000000000000000000#32] =
      some (.schedule 5#30 2#30 0#30) := by decide

/-- A STATUS and a LINK RESET are one word each: codes 20 and 21. -/
theorem test_decode_one_word_requests :
    decodeMessage [0b01_0000_10100_000000_000000000000000#32] = some .status ∧
      decodeMessage [0b01_0000_10101_000000_000000000000000#32] = some .linkReset := by decide

/-- Codes 0 and 22 and a wrong length are not listed. -/
theorem test_decode_unlisted :
    decodeMessage [0b01_0000_00000_000000_000000000000000#32] = none ∧
      decodeMessage [0b01_0000_10110_000000_000000000000000#32] = none ∧
      decodeMessage [0b01_0000_00001_000000_000000000000000#32] = none := by decide

/-- Word types 00 and 11 are IDLE inbound; 10 is DATA. -/
theorem test_word_types :
    wordType 0x3fffffff#32 = .idle ∧ wordType 0xffffffff#32 = .idle ∧ wordType 0x80000000#32 = .data := by decide

/-- No row of the table has bits. -/
theorem test_no_table_word : decodeTableWord 32 0 = none := rfl

/-! ### Worked examples of the manual -/

/-- The worked example of 1.5: P, k, W and the pulse code are adjusted, and i0 is 404. -/
theorem test_adjusted_profile :
    adjustProfile ⟨146800#30, 0#30, 3000#30, 6#30, 20#30, 8#30, 20#30, 200#30, 12#30, 8#30, 100#30, 50#30, 1#30,
        1#30⟩ =
      { Profile.default with period := 0, points := 2048, pulse := 4, averages := 16, smoothing := 8 } ∧
      deadZoneEnd 4 0 = 404 := by decide

/-- The table of R102, at its corners and in its middle. -/
theorem test_dead_zone_table :
    deadZoneEnd 0 0 = 8 ∧ deadZoneEnd 0 2 = 5 ∧ deadZoneEnd 2 2 = 14 ∧ deadZoneEnd 3 4 = 12 ∧ deadZoneEnd 5 5 = 42 ∧
      deadZoneEnd 6 0 = 4004 ∧ deadZoneEnd 6 5 = 129 := by decide

/-- The table of R104. -/
theorem test_spacing_table :
    spacing 146800 2 = 1021091 ∧ spacing 148200 2 = 1011446 ∧ spacing 160000 0 = 234213 ∧
      spacing 140000 5 = 8565499 := by decide

/-- The distances of R105 and of the worked case of 6.3. -/
theorem test_distance_table :
    distance 1021091 3700 = 37780 ∧ distance 1011446 3700 = 37424 ∧ distance 1021091 14 = 143 ∧
      distance 1021091 3717 = 37954 ∧ distance 8565499 16383 = 1403286 := by decide

/-- The table of R106. -/
theorem test_loss_table :
    mdB 1 = 6 ∧ mdB (-1) = -6 ∧ mdB 20 = 118 ∧ mdB (-28) = -165 ∧ mdB 128 = 753 ∧ mdB (-128) = -752 ∧
      mdB 256 = 1505 ∧ mdB (-256) = -1505 := by decide

/-- The worked cases of 6.1: levels and below-floor flags at k = 10, D = 200, F = 8, and the same mean at k = 12. -/
theorem test_level_table :
    convertPoint 10 8 200 1843200 false = ⟨2704, false, false⟩ ∧
      convertPoint 10 8 200 1060000 false = ⟨2465, false, false⟩ ∧
      convertPoint 10 8 200 204805 false = ⟨-1984, true, false⟩ ∧
      convertPoint 10 8 200 150000 false = ⟨-2560, true, false⟩ ∧
      convertPoint 10 8 200 4193280 true = ⟨3046, false, true⟩ ∧
      (convertPoint 12 8 0 6553600 false).level = 2704 := by decide

/-- The search for the end index, as in the worked case of 6.2: a point before i0 is not looked at, a short dip does
not end the fibre, and the first run of eight from i0 on does. -/
theorem test_end_index :
    endIndexOf (([true, false, true, true, false] ++ List.replicate 8 true).map (fun d => ⟨0, d, false⟩)) 1 13 = 5 ∧
      endIndexOf (([true, false, true, true, false] ++ List.replicate 7 true).map (fun d => ⟨0, d, false⟩)) 1 12
        = 12 := by decide

/-- The window of 3.2's example, 23:00 to 01:00. -/
theorem test_window_across_midnight :
    (⟨1380, 60⟩ : Window).isOpen (some 82799) = false ∧ (⟨1380, 60⟩ : Window).isOpen (some 82800) = true ∧
      (⟨1380, 60⟩ : Window).isOpen (some 0) = true ∧ (⟨1380, 60⟩ : Window).isOpen (some 3599) = true ∧
      (⟨1380, 60⟩ : Window).isOpen (some 3600) = false ∧ (⟨1380, 60⟩ : Window).isOpen none = false := by decide

/-- The smoothed deficits of the step scan of 7.8. -/
def bendDeficits (i : Nat) : Option Int :=
  if i < 3697 then some 2 else if i = 3697 then some 9 else if i = 3698 then some 16 else if i = 3699 then some 23
  else if i ≤ 3710 then some 30 else none

/-- The step scan of 7.8: one step, at location 3,700 with loss point 3,706 and 28 tu. -/
theorem test_step_scan : stepScan bendDeficits sn 30 3690 2 = [⟨3700, 3706, 28⟩] := by decide

/-- The weighing of 7.8: 165 mdB against 47 mdB is a BEND at the default margin of 100. -/
theorem test_weigh : weigh sn 165 47 = .bend ∧ weigh sn 165 66 = .step ∧ weigh sn 165 65 = .bend := by decide

/-- The first finding of 8.7, as its test gives it, and its re-finding by ticket 305. -/
def reflection (location dist : Nat) (tu mdb : Int) : Finding :=
  { kind := .reflection, location := location, distance := dist, lossPoint := none, loss := none,
    height := some ⟨tu, mdb⟩, saturated := some false, bands := none }

/-- A report with these findings, limit and break flag, of a ROUTINE or URGENT test. -/
def report (fs : List Finding) (limit : Nat) (brk : Bool) : Report :=
  { Report.none with findings := fs, missCount := true, limit := limit, hasBreak := brk }

/-- Ticket 300 of 8.7 creates the entry NEW with one hit, and announces it. -/
theorem test_fold_creates :
    let f := foldTest [] 7 50 1021091 300 (report [reflection 2950 30122 310 1822] 3714 false)
    f.table = [newEntry 0 7 (reflection 2950 30122 310 1822) 1021091 300] ∧ f.announced = true ∧
      (f.table.map (fun e => (e.state, e.hits, e.misses))) = [(.new, 1, 0)] := by decide

/-- Ticket 305 of 8.7 re-finds it 10 dm away: ACTIVE, two hits, announced. -/
theorem test_fold_refinds :
    let f := foldTest [newEntry 12 7 (reflection 2950 30122 310 1822) 1021091 300] 7 50 1021091 305
      (report [reflection 2951 30132 296 1740] 3714 false)
    f.announced = true ∧ f.table.map (fun e => (e.id, e.state, e.hits, e.det.distance, e.lastTicket)) =
      [(12, .active, 2, 30132, 305)] := by decide

/-- Tickets 318 and 324 of 8.7: the second miss is not announced, the third clears the entry and is. -/
theorem test_fold_misses :
    let e := { newEntry 12 7 (reflection 2951 30132 296 1740) 1021091 300 with state := .active, misses := 1 }
    let f := foldTest [e] 7 50 1021091 318 (report [] 3714 false)
    let g := foldTest f.table 7 50 1021091 324 (report [] 3714 false)
    f.announced = false ∧ f.table.map (fun e => (e.state, e.misses)) = [(.active, 2)] ∧
      g.announced = true ∧ g.table.map (fun e => (e.state, e.misses)) = [(.cleared, 3)] := by decide

/-- The edges of R56: line A rising with B low counts up, B rising with A low counts down, and 0 goes down to 2047. -/
theorem test_encoder_edges :
    edgeDir ⟨.A, true, false⟩ = .forward ∧ edgeDir ⟨.B, true, false⟩ = .backward ∧ countStep 0 .backward = 2047 ∧
      countStep 2047 .forward = 0 := by decide

/-- The move of 4.8 from count 320 to port 30: backward, at full speed from 448 counts, at creep from 16 on. -/
theorem test_motor_of_worked_move :
    (selAt .moving 320 (some 30)).motor = { run := true, dir := .backward, creep := false } ∧
      (selAt .moving 1936 (some 30)).motor = { run := true, dir := .backward, creep := true } := by decide

/-- The slip of 4.8: at count 5 the index edge corrects the count to 0 and the move goes on. -/
theorem test_slip_of_worked_move :
    let t := after .indexEdge (up.setSel (selAt .moving 5 (some 30)))
    t.sel.count = 0 ∧ t.sel.state = .moving := by decide

/-- Frame 2 of 11.8: the CANCEL is answered OK with tag 7 and the port holds a CANCELLED result. -/
theorem test_cancel_of_worked_sequence :
    let t := after (.cancel 0 7#15 215#30) (queued tenant [entry 215 .routine none])
    (t.link 0).response = [responseHeader 1 0 7 7#15] ∧ t.queue.entries = [] ∧
      (t.port 7).result.map (fun r => r.status) = some .cancelled ∧ t.resultFlag 0 = true := by decide +kernel

/-- The last row of 9.6: a failed verify leaves slot 9 EMPTY, frees the buffer and raises STORE for the claimant. -/
theorem test_failed_verify_of_worked_sequence :
    let s := (owned up 4 1).setStore { up.store with
      buffers := up.store.buffers.put 1 (.held
        { port := 4, band := .B, points := 1024, period := 2, pulse := 2, averages := 8, groupIndex := 146800,
          endIndex := 14, dark := 0, ticket := 90, time := none, levels := [] })
      commits := [{ slot := 9, op := .write 1, writing := true }] }
    let t := after (.programmingEnd .empty) s
    t.store.commits = [] ∧ t.store.buffers.at 1 = .free ∧ t.store.slots.at 9 = none ∧
      (t.link 1).store = true := by decide

/-- The first row of 10.6: HOLD in ACQUIRE drains the block, members 1 and granted cleared. -/
theorem test_hold_of_worked_sequence :
    let t := after (.hold 0 1#15) (busy .acquire .laser 100 fresh)
    t.eng.state = .draining ∧ t.eng.trigger = none ∧
      (t.link 0).response = [responseHeader 3 0 18 1#15, dataWord 1#30, dataWord 0#30] := by decide

/-- The boundary of 10.6: the drained block leaves the engine HELD, the test suspended, the timer at 60 s. -/
theorem test_drained_block_of_worked_sequence :
    let t := after (.drainedBlockBoundary ⟨0#12, []⟩) (holding (busy .draining .laser 1 fresh) 0)
    t.eng.state = .held ∧ t.eng.blocksDone = 0 ∧ t.hold.timer = some 60000000000 ∧
      t.queue.running.map (fun e => e.run.map (fun r => r.suspended)) = some (some true) := by decide

/-- A test chosen from the reset state is ticket 1, and its port becomes the homing's pending target (4.8). -/
theorem test_first_schedule :
    let t := after (.schedule 0 0#15 7#30 1#30 0#30) tenant
    t.eng.state = .position ∧ t.sel.pendingTarget = some 7 ∧
      t.queue.entries.map (fun e => (e.ticket, e.run.map (fun r => r.plan))) = [(1, some ⟨false, true⟩)] := by decide

/-! ### Witnesses: steps and the highway -/

theorem witness_StepRunsTheFrontCommand :
    (up.setPending [.clockAdvance, .powerOn]).pending = [.clockAdvance, .powerOn] ∧ up.pending = [] := by decide

theorem witness_WordByWordEqualsTheRequest : up.hw.frame = .aligned ∧ (up.link 0).assembly = .empty := by decide

/-- Client 0's buffer holds `n` of 16 words. -/
def assembling (n : Nat) : State :=
  up.setLink 0 { up.link 0 with assembly := .assembling (List.replicate n (requestHeader 16 3 0#15)) 16 }

/-- Messages of a listed code with its length and with another one, and of a code that 11.6 does not list. -/
theorem witness_RequestWordsDecode :
    messageWellFormed [requestHeader 2 1 9#15, dataWord 7#30] = true ∧
      decodeMessage [requestHeader 2 1 9#15, dataWord 7#30] = some (.claim 7#30) ∧
      messageWellFormed [requestHeader 1 1 9#15] = true ∧ decodeMessage [requestHeader 1 1 9#15] = none ∧
      messageWellFormed [requestHeader 1 22 9#15] = true ∧ decodeMessage [requestHeader 1 22 9#15] = none := by decide

/-- Each clause: an idle word of either type; headers of length 1, 2 and 16; a data word with the buffer EMPTY, with
one word of sixteen missing, and with two. -/
theorem witness_InboundWordAssembly :
    up.hw.frame = .aligned ∧ (assembling 15).hw.frame = .aligned ∧
      wordType 0x00000000#32 = .idle ∧ wordType 0xc0000000#32 = .idle ∧
      wordType (requestHeader 1 20 0#15) = .header ∧ headerLength (requestHeader 1 20 0#15) = 1 ∧
      wordType (requestHeader 2 1 0#15) = .header ∧ 2 ≤ headerLength (requestHeader 2 1 0#15) ∧
      wordType (requestHeader 16 3 0#15) = .header ∧ 2 ≤ headerLength (requestHeader 16 3 0#15) ∧
      wordType (dataWord 0#30) = .data ∧ (up.slotEnd.link 0).assembly = .empty ∧
      (∃ ws, ((assembling 14).slotEnd.link 0).assembly = .assembling ws 16 ∧ ws.length + 1 < 16) ∧
      (∃ ws, ((assembling 15).slotEnd.link 0).assembly = .assembling ws 16 ∧ ws.length + 1 = 16) :=
  ⟨by decide, by decide, by decide, by decide, by decide, by decide, by decide, by decide, by decide, by decide,
    by decide, by decide, ⟨_, rfl, by decide⟩, ⟨_, rfl, by decide⟩⟩

theorem up_takes : up.takes 0 := ⟨by decide, by decide⟩

theorem witness_MalformedMessageIsAnswered :
    up.takes 0 ∧ messageWellFormed [requestHeader 1 0 3#15] = true ∧ decodeMessage [requestHeader 1 0 3#15] = none ∧
      messageWellFormed [requestHeader 2 22 3#15, dataWord 0#30] = true ∧
      decodeMessage [requestHeader 2 22 3#15, dataWord 0#30] = none :=
  ⟨up_takes, by decide, by decide, by decide, by decide⟩

theorem witness_MessageWhilePendingIsDiscarded :
    let s := answering up [dataWord 1#30] 0
    s.hw.frame = .aligned ∧ (s.link 0).pending.isSome = true ∧ messageWellFormed [requestHeader 1 20 0#15] = true ∧
      decodeMessage [requestHeader 1 20 0#15] ≠ some .linkReset ∧ Request.status ≠ Request.linkReset := by decide

/-- Frame aligned, and then a sync taken on the first bit of slot 1, which becomes slot 0's (R166). -/
def resynced : State := after (.frameSync 32) up

/-- Waiting, lost, and resynchronised, with slot 3 that does not come next. -/
theorem witness_NothingMovesWithoutAFrame :
    State.reset.hw.frame ≠ .aligned ∧ (after .highwayLoss up).hw.frame ≠ .aligned ∧
      Instr.request (.status 0 0#15) = some .status ∧ resynced.hw.frame = .resynced ∧ (3 : Client) ≠ 0 := by decide

/-- The first word of two, the last one, and no word left to send; a slot at whose end the response has gone, and one at
whose end a word of it remains; and slot 0 after a resynchronisation. -/
theorem witness_OutboundSlotSendsTheNextWord :
    let two := [responseHeader 2 0 10 5#15, dataWord 1#30]
    (answering up two 0).hw.frame = .aligned ∧
      ((answering up two 0).slotEnd.link 0).response[((answering up two 0).slotEnd.link 0).sent]? =
        some (responseHeader 2 0 10 5#15) ∧
      ((answering up two 1).slotEnd.link 0).response[((answering up two 1).slotEnd.link 0).sent]? =
        some (dataWord 1#30) ∧
      (up.slotEnd.link 0).response[(up.slotEnd.link 0).sent]? = none ∧
      (after (.outboundSlot 0) (answering up two 0)).hw.tx =
        some { client := 0, word := responseHeader 2 0 10 5#15, kind := .response none } ∧
      ((after (.outboundSlot 0) (answering up two 0)).link 0).sent = 1 ∧
      ((after (.outboundSlot 0) (answering up two 1)).link 0).sent = 2 ∧
      (after (.outboundSlot 0) (answering up two 1)).hw.tx.isSome = true ∧ resynced.hw.frame = .resynced ∧
      (after (.outboundSlot 0) resynced).hw.frame = .aligned := by decide

/-- 32 queue entries, and 15 words received. -/
theorem witness_IdleStatusWordAndAttention :
    (queued tenant ((List.range 32).map (fun i => entry (i + 1) .confirm none))).queue.entries.length ≤ 32 ∧
      ((assembling 15).link 0).assembly.received ≤ 15 ∧ ((assembling 15).link 0).assembly.received = 15 := by decide

/-- The sync at bit 0, on another slot's first bit, and on a slot's last bit, with no outbound word, with another
slot's, and with its own: an idle status word, a response word, and the last response word; before slot 0 of a resynchronised
frame; while waiting; while lost. -/
theorem witness_FrameSyncCutsOnlyItsSlot :
    let one := answering up [responseHeader 1 0 10 5#15] 0
    let two := answering up [responseHeader 2 0 10 5#15, dataWord 1#30] 0
    (0 : Client).val = (0 : Fin 128).val / 32 ∧ (0 : Client).val = (31 : Fin 128).val / 32 ∧
      (3 : Client).val = (127 : Fin 128).val / 32 ∧ (up.hw.frame = .aligned ∧ resynced.hw.frame = .resynced) ∧
      ((0 : Fin 128).val = 0 ∧ (96 : Fin 128).val ≠ 0 ∧ (96 : Fin 128).val % 32 = 0) ∧
      (31 : Fin 128).val % 32 ≠ 0 ∧ (127 : Fin 128).val % 32 ≠ 0 ∧ up.hw.tx = none ∧
      (∃ x, (after (.outboundSlot 3) up).hw.tx = some x ∧ x.client ≠ 0) ∧
      (∃ x, (after (.outboundSlot 0) up).hw.tx = some x ∧ x.client = 0 ∧ x.kind = .idle) ∧
      (∃ x, (after (.outboundSlot 0) two).hw.tx = some x ∧ x.client = 0 ∧ x.kind = .response none) ∧
      (∃ x, (after (.outboundSlot 0) one).hw.tx = some x ∧ x.client = 0 ∧
        x.kind = .response (some { code := 20, tag := 5#15 })) ∧
      State.reset.hw.frame = .waiting ∧ (after .highwayLoss up).hw.frame = .lost :=
  ⟨by decide, by decide, by decide, by decide, by decide, by decide, by decide, by decide, ⟨_, rfl, by decide⟩,
    ⟨_, rfl, by decide, by decide⟩, ⟨_, rfl, by decide, by decide⟩, ⟨_, rfl, by decide, by decide⟩, by decide,
    by decide⟩

/-- A cut in slot 0, whose client's slot comes next, and one in slot 2, after which slots 0 and 2 come. -/
theorem witness_CutResponseWordIsSentAgain :
    let s := answering up [responseHeader 1 0 10 5#15] 0
    let z := up.setLink 2 (s.link 0)
    (s.hw.frame = .aligned ∧ (0 : Client).val = (31 : Fin 128).val / 32 ∧ (31 : Fin 128).val % 32 ≠ 0 ∧
      (∃ w, (s.slotEnd.link 0).response[(s.slotEnd.link 0).sent]? = some w) ∧
      ∃ t u v, exec (.outboundSlot 0) s = .next t ∧ exec (.frameSync 31) t = .next u ∧
        exec (.outboundSlot 0) u = .next v) ∧
    (z.hw.frame = .aligned ∧ (2 : Client).val = (65 : Fin 128).val / 32 ∧ (65 : Fin 128).val % 32 ≠ 0 ∧
      (∃ w, (z.slotEnd.link 2).response[(z.slotEnd.link 2).sent]? = some w) ∧
      ∃ t u w v, exec (.outboundSlot 2) z = .next t ∧ exec (.frameSync 65) t = .next u ∧
        exec (.outboundSlot 0) u = .next w ∧ exec (.outboundSlot 2) w = .next v) :=
  ⟨⟨by decide, by decide, by decide, ⟨_, rfl⟩, ⟨_, _, _, rfl, rfl, rfl⟩⟩,
    ⟨by decide, by decide, by decide, ⟨_, rfl⟩, ⟨_, _, _, _, rfl, rfl, rfl, rfl⟩⟩⟩

theorem witness_HighwayLossReturnAndAlignment :
    up.hw.frame ≠ .lost ∧ State.reset.hw.frame ≠ .lost ∧ (after .highwayLoss up).hw.frame = .lost ∧
      State.reset.hw.frame = .waiting ∧ up.hw.frame ≠ .waiting := by decide

theorem witness_StatusReportsThenClears : up.takes 0 := up_takes

/-- A client with two QUEUED entries and another's, a client with none, and a pending request. -/
theorem witness_LinkResetDropsTheLinkAndItsQueuedTests :
    let s := answering (queued tenant [entry 1 .urgent (some fresh), entry 2 .routine none, entry 3 .confirm none]) [] 0
    s.hw.frame = .aligned ∧ (∃ e ∈ s.queue.entries, e.run = none ∧ e.client = 0) ∧
      (∀ e ∈ s.queue.entries, e.run = none → e.client ≠ 1) ∧
      (∀ e ∈ s.queue.entries, e.run = none → e.client = 0 → e.port ≠ 8) := by decide

/-! ### Witnesses: ports -/

/-- Port 31 unclaimed, the client's own, another's; and port 32. -/
theorem witness_ClaimFollowsItsTable :
    up.takes 0 ∧ 32 ≤ (32#30).toNat ∧ (31#30).toNat = (31 : PortNo).val ∧ (0#30).toNat = (0 : PortNo).val ∧
      (up.port 31).claimant = none ∧ (owned up 31 0).takes 0 ∧ ((owned up 31 0).port 31).claimant = some 0 ∧
      (owned up 31 3).takes 0 ∧ ((owned up 31 3).port 31).claimant = some 3 ∧ (3 : Client) ≠ 0 :=
  ⟨up_takes, by decide, by decide, by decide, by decide, ⟨by decide, by decide⟩, by decide, ⟨by decide, by decide⟩,
    by decide, by decide⟩

theorem witness_PortChecksRefuse :
    up.takes 0 ∧ Request.namedPort (.getProfile 32#30) = some 32#30 ∧ 32 ≤ (32#30).toNat ∧
      Request.namedPort (.release 31#30) = some 31#30 ∧ (31#30).toNat = (31 : PortNo).val ∧
      (up.port 31).claimant ≠ some 0 ∧ (∀ x, Request.release 31#30 ≠ .claim x) ∧ (owned up 31 1).takes 0 ∧
      ((owned up 31 1).port 31).claimant ≠ some 0 :=
  ⟨up_takes, by decide, by decide, by decide, by decide, by decide, by simp, ⟨by decide, by decide⟩, by decide⟩

theorem tenant_takes : tenant.takes 0 ∧ (7#30).toNat = (7 : PortNo).val ∧ (tenant.port 7).claimant = some 0 :=
  ⟨⟨by decide, by decide⟩, by decide, by decide⟩

theorem busy_takes (st : EngState) (k : BlockKind) (n : Nat) (ri : RunInfo) :
    (busy st k n ri).takes 0 ∧ (7#30).toNat = (7 : PortNo).val ∧ ((busy st k n ri).port 7).claimant = some 0 :=
  ⟨⟨rfl, rfl⟩, rfl, rfl⟩

theorem queueInv_one (s : State) (e : Entry) (hr : e.run = none) (h1 : 1 ≤ e.ticket) (h2 : e.ticket ≤ 65535) :
    QueueInv (queued s [e]) := by
  refine ⟨show 1 ≤ 32 by decide, List.nodup_singleton _, ?_, ?_, ?_⟩
  · intro f hf
    cases List.mem_singleton.mp hf
    exact ⟨h1, h2⟩
  · intro f hf g hg hf' _
    cases List.mem_singleton.mp hf
    simp [hr] at hf'
  · intro _ f hf
    cases List.mem_singleton.mp hf
    exact hr

theorem busy_queueInv (st : EngState) (k : BlockKind) (n : Nat) (ri : RunInfo) (h : st ≠ .idle) :
    QueueInv (busy st k n ri) := by
  refine ⟨show 1 ≤ 32 by decide, show [1].Nodup by decide, ?_, ?_, fun hs => absurd hs h⟩
  · intro e he
    cases List.mem_singleton.mp he
    exact show 1 ≤ 1 ∧ 1 ≤ 65535 by decide
  · intro e he f hf _ _
    cases List.mem_singleton.mp he
    exact (List.mem_singleton.mp hf).symm

theorem busy_holdInv : HoldInv (busy .acquire .laser 9 fresh) := by
  rintro (h | h) <;> cases h

/-- A port with no test and no entry, with the test of another port RUNNING. -/
theorem witness_ReleaseLeavesThePortClean_other :
    let s := owned (busy .acquire .laser 9 fresh) 9 0
    (s.takes 0 ∧ (9#30).toNat = (9 : PortNo).val ∧ (s.port 9).claimant = some 0 ∧ QueueInv s ∧ HoldInv s) ∧
      s.queue.running = some (entry 1 .urgent (some fresh)) ∧ (entry 1 .urgent (some fresh)).port ≠ 9 ∧
      (∀ e ∈ s.queue.entries, e.port ≠ 9) ∧ (∃ e ∈ s.queue.entries, e.port = 7) :=
  ⟨⟨⟨rfl, rfl⟩, rfl, rfl, busy_queueInv .acquire .laser 9 fresh (by decide), busy_holdInv⟩, by decide, by decide,
    by decide, by decide⟩

/-- The port's test in ACQUIRE; its test parked with a member in the hold set. -/
theorem witness_ReleaseLeavesThePortClean :
    let s := busy .acquire .laser 9 fresh
    let u := holding (busy .held .laser 9 fresh) 2
    (s.takes 0 ∧ (7#30).toNat = (7 : PortNo).val ∧ (s.port 7).claimant = some 0 ∧ QueueInv s ∧ HoldInv s) ∧
      s.queue.running = some (entry 1 .urgent (some fresh)) ∧ s.eng.state ≠ .idle ∧ s.eng.state ≠ .held ∧
      (u.takes 0 ∧ (u.port 7).claimant = some 0 ∧ QueueInv u ∧ HoldInv u) ∧
      u.queue.running = some (entry 1 .urgent (some fresh)) ∧ u.eng.state = .held :=
  ⟨⟨(busy_takes _ _ _ _).1, by decide, by decide, busy_queueInv _ _ _ _ (by decide), busy_holdInv⟩, by decide,
    by decide, by decide,
    ⟨⟨rfl, rfl⟩, rfl, busy_queueInv .held .laser 9 fresh (by decide), fun _ => ⟨2, by decide⟩⟩, by decide, by decide⟩

theorem witness_SetProfileStoresTheAdjustedProfile :
    tenant.takes 0 ∧ (7#30).toNat = (7 : PortNo).val ∧ (tenant.port 7).claimant = some 0 := tenant_takes

/-- Values below, at both ends of, and above their ranges; below and above the smallest listed P and W; an enable of
either value; a stored profile that differs and one that does not. -/
theorem witness_AdjustedProfileIsLegal :
    let f : ProfileWords := ⟨139999#30, 0#30, 1023#30, 0#30, 7#30, 0#30, 4#30, 1024#30, 0#30, 64#30, 5000#30, 10001#30,
      0#30, 1#30⟩
    let g : ProfileWords := ⟨146800#30, 2#30, 4096#30, 2#30, 12#30, 8#30, 20#30, 200#30, 4#30, 8#30, 100#30, 50#30,
      1#30, 1#30⟩
    f.groupIndex.toNat < 140000 ∧ 0 ≤ f.period.toNat ∧ f.points.toNat < 1024 ∧ f.averages.toNat < 8 ∧
      f.stepThreshold.toNat = 4 ∧ 1023 < f.reflectionThreshold.toNat ∧ f.smoothing.toNat = 0 ∧
      f.confirmLength.toNat = 64 ∧ f.bendMargin.toNat = 5000 ∧ 10000 < f.matchDistance.toNat ∧
      f.bandAEnable.toNat = 0 ∧ f.losEnable.toNat ≠ 0 ∧ 1024 ≤ g.points.toNat ∧ 1 ≤ g.smoothing.toNat ∧
      differsFrom (adjustProfile f) f = true ∧ differsFrom (adjustProfile g) g = false := by decide

/-- The record of a DONE BASELINE of band B with 17 body words: the kind word is 2, the band word 1, cause absent. -/
def bodyExample : List Payload :=
  ResultRecord.body
    { ticket := 9, kind := .baseline .B, status := .done, cause := none
      bands := ⟨{ run := false, baseline := none, endIndex := none, dark := none },
        { run := true, baseline := none, endIndex := some 40, dark := some 7 }⟩
      findings := 0, more := false, tableFull := false, time := some 86399 }

theorem witness_GetProfileAndGetResultRead :
    (tenant.takes 0 ∧ (7#30).toNat = (7 : PortNo).val ∧ (tenant.port 7).claimant = some 0) ∧ 1073741823 < 2 ^ 30 ∧
      bodyExample.length = 17 ∧ bodyExample.take 5 = [9#30, 2#30, 1#30, 0#30, 0x3fffffff#30] :=
  ⟨tenant_takes, by decide, by decide, by decide⟩

/-! ### Witnesses: the test queue -/

/-- `n` entries of ports 0 upward and other clients, none of them the tenant's. -/
def others (n : Nat) : List Entry :=
  (List.range n).map (fun i =>
    { ticket := i + 100, client := 1, port := Fin.ofNat 32 i, kind := .confirm, origin := .analysis, run := none })

/-- `n` QUEUED entries of client 0 and origin REQUEST. -/
def share (n : Nat) : List Entry :=
  (List.range n).map (fun i =>
    { ticket := i + 100, client := 0, port := Fin.ofNat 32 (i + 8), kind := .routine, origin := .request, run := none })

theorem queued_takes (es : List Entry) :
    (queued tenant es).takes 0 ∧ (7#30).toNat = (7 : PortNo).val ∧ ((queued tenant es).port 7).claimant = some 0 :=
  ⟨⟨rfl, rfl⟩, rfl, rfl⟩

/-- An unassigned kind and a BASELINE of no band; a duplicate; a ROUTINE met by an URGENT; an URGENT met by a ROUTINE; a
full queue; a client at its share with room left; one entry below each limit. -/
theorem witness_ScheduleFollowsItsChecks :
    tenant.takes 0 ∧ (tenant.port 7).claimant = some 0 ∧ 3 ≤ (3#30).toNat ∧ (2#30).toNat = 2 ∧ 2 ≤ (2#30).toNat ∧
      (0#30).toNat = 0 ∧ (1#30).toNat = 1 ∧
      (queued tenant [entry 5 (.baseline .A) none]).queue.findQueued 7 (.baseline .A) =
        some (entry 5 (.baseline .A) none) ∧
      (queued tenant [entry 5 .urgent none]).queue.findQueued 7 .routine = none ∧
      (queued tenant [entry 5 .urgent none]).queue.findQueued 7 .urgent = some (entry 5 .urgent none) ∧
      (queued tenant [entry 5 .routine none]).queue.findQueued 7 .urgent = none ∧
      (queued tenant [entry 5 .routine none]).queue.findQueued 7 .routine = some (entry 5 .routine none) ∧
      32 ≤ (queued tenant (others 32)).queue.entries.length ∧
      (queued tenant (others 31)).queue.entries.length < 32 ∧
      (queued tenant (share 12)).queue.entries.length < 32 ∧ 12 ≤ (queued tenant (share 12)).queue.shareCount 0 ∧
      (queued tenant (share 11)).queue.shareCount 0 < 12 ∧
      (queued tenant (share 12)).queue.findQueued 7 .routine = none ∧
      (queued tenant (others 31)).queue.findQueued 7 .urgent = none := by
  refine ⟨tenant_takes.1, ?_⟩
  decide

/-- A queue of 32 entries whose last ticket is 65535. -/
theorem witness_TicketIssuedIsTheNextFreeOne :
    ({ entries := others 32, lastTicket := some 65535, pointer := 0, latches := Tab.all 32 false }
      : TestQueue).entries.length ≤ 32 := by decide

/-- No such ticket; another client's; a QUEUED entry; and a RUNNING one with cancel pending, in ANALYSE, in HELD and in
POSITION. -/
theorem witness_CancelFollowsTheEntry :
    tenant.takes 0 ∧ (∀ e ∈ tenant.queue.entries, e.ticket ≠ (0#30).toNat) ∧
      (queued tenant (others 1)).queue.entries.find? (fun x => decide (x.ticket = (100#30).toNat)) =
        (others 1).head? ∧ (∀ e ∈ (others 1).head?, e.client ≠ 0) ∧
      (queued tenant [entry 3 .routine none]).queue.entries.find? (fun x => decide (x.ticket = (3#30).toNat)) =
        some (entry 3 .routine none) ∧
      (busy .analyse .laser 0 fresh).queue.entries.find? (fun x => decide (x.ticket = (1#30).toNat)) =
        some (entry 1 .urgent (some fresh)) ∧ fresh.cancelPending = false ∧
      (busy .held .laser 0 fresh).queue.entries.find? (fun x => decide (x.ticket = (1#30).toNat)) =
        some (entry 1 .urgent (some fresh)) ∧ (busy .held .laser 0 fresh).eng.state = .held ∧
      (busy .analyse .laser 0 fresh).eng.state = .analyse ∧ (busy .position .dark 0 fresh).eng.state ≠ .analyse ∧
      (busy .position .dark 0 fresh).eng.state ≠ .held ∧
      (busy .dark .dark 4 { fresh with cancelPending := true }).queue.entries.find?
          (fun x => decide (x.ticket = (1#30).toNat)) =
        some (entry 1 .urgent (some { fresh with cancelPending := true })) := by
  refine ⟨tenant_takes.1, ?_⟩
  decide +kernel

/-- The case of a QUEUED entry, with the queue in its form. -/
theorem witness_CancelFollowsTheEntry_queued :
    let s := queued tenant [entry 3 .routine none]
    s.takes 0 ∧ (entry 3 .routine none).client = 0 ∧ (entry 3 .routine none).run = none ∧ QueueInv s :=
  ⟨(queued_takes _).1, rfl, rfl, queueInv_one _ _ rfl (by decide) (by decide)⟩

/-- A RUNNING entry of the client, which is another's for client 1; none; the largest ticket and position. -/
theorem witness_ListQueueIsOnePicture :
    tenant.takes 0 ∧ (busy .dark .dark 9 fresh).queue.running = some (entry 1 .urgent (some fresh)) ∧
      (entry 1 .urgent (some fresh)).run = some fresh ∧ (entry 1 .urgent (some fresh)).client = 0 ∧
      (entry 1 .urgent (some fresh)).client ≠ 1 ∧ tenant.queue.running = none ∧
      (entry 65535 .confirm none).ticket ≤ 65535 ∧ 31 < 32 ∧ queueWord (entry 65535 .confirm none) 31 = 0b0_11111_1111111111111111_00111_101#30 :=
  ⟨tenant_takes.1, by decide, by decide, by decide, by decide, by decide, by decide, by decide, by decide⟩

/-- An unclaimed port, and a claimed one whose LOS urgent enable is no. -/
theorem witness_IgnoredLosEdgeChangesNothing :
    (up.port 31).claimant = none ∧
      ((tenant.setPort 7 { tenant.port 7 with
        profile := { Profile.default with losEnable := false } }).port 7).profile.losEnable = false := by decide

/-- Each line of R37's table: a QUEUED URGENT; a QUEUED ROUTINE; a RUNNING URGENT; room for one; full with a QUEUED
ROUTINE, and full with none. -/
theorem witness_LosEdgeFollowsItsTable :
    (tenant.port 7).claimant = some 0 ∧ (tenant.port 7).profile.losEnable = true ∧
      ((queued tenant [entry 1 .urgent none]).queue.findQueued 7 .urgent).isSome = true ∧
      (queued tenant [entry 1 .routine none]).queue.findQueued 7 .urgent = none ∧
      ((queued tenant [entry 1 .routine none]).queue.findQueued 7 .routine).isSome = true ∧
      (busy .dark .dark 9 fresh).queue.findQueued 7 .urgent = none ∧
      (busy .dark .dark 9 fresh).queue.findQueued 7 .routine = none ∧
      (busy .dark .dark 9 fresh).queue.urgentRunning 7 = true ∧
      (queued tenant (others 31)).queue.urgentRunning 7 = false ∧
      (queued tenant (others 31)).queue.entries.length < 32 ∧
      32 ≤ (queued tenant (share 1 ++ others 31)).queue.entries.length ∧
      (queued tenant (share 1 ++ others 31)).queue.entries = [] ++
        { ticket := 100, client := 0, port := 8, kind := .routine, origin := .request, run := none } :: others 31 ∧
      (∀ x ∈ others 31, ¬ (x.run = none ∧ x.kind = .routine)) ∧
      32 ≤ (queued tenant (others 32)).queue.entries.length ∧
      (∀ e ∈ (queued tenant (others 32)).queue.entries, ¬ (e.run = none ∧ e.kind = .routine)) := by decide

/-- `s` with port p's latch set. -/
def latched (s : State) (p : PortNo) : State := s.setQueue (s.queue.setLatch p true)

/-- A latch that is drained, and one that waits in a full queue; a port with no latch, and one with its URGENT RUNNING,
a QUEUED URGENT, a QUEUED ROUTINE and no entry. -/
theorem witness_LatchDrainServesTheLatches :
    (latched tenant 7).queue.latches.at 7 = true ∧ (latched tenant 7).drain.queue.latches.at 7 = false ∧
      (latched (queued tenant (others 32)) 7).drain.queue.latches.at 7 = true ∧
      32 ≤ (latched (queued tenant (others 32)) 7).queue.entries.length ∧ tenant.queue.latches.at 7 = false ∧
      (∃ e ∈ (latched (busy .dark .dark 9 fresh) 7).queue.entries,
        e.run.isSome = true ∧ e.port = 7 ∧ e.kind = .urgent) ∧
      (∃ e ∈ [entry 1 .urgent none], e.run = none ∧ e.port = 7 ∧ e.kind = .urgent) ∧
      (∃ e ∈ [entry 1 .routine none], e.run = none ∧ e.port = 7 ∧ e.kind = .routine) ∧
      ((latched tenant 7).port 7).claimant = some 0 ∧ (latched tenant 7).queue.entries = [] := by decide +kernel

/-- Two eligible URGENTs behind an ineligible ROUTINE. -/
theorem witness_ArbiterTakesTheOldestUrgent :
    let s := queued tenant [entry 1 .routine none, entry 2 .urgent none, entry 3 .urgent none]
    s.mayChoose = true ∧ s.queue.entries = [entry 1 .routine none] ++ entry 2 .urgent none :: [entry 3 .urgent none] ∧
      s.eligible (entry 2 .urgent none) = true ∧
      (∀ x ∈ [entry 1 .routine none], ¬ (x.kind = .urgent ∧ s.eligible x = true)) := by decide

/-- Client 0's window open, the pointer at client 3. -/
def inWindow : State := ({ tenant with queue := { tenant.queue with pointer := 3 } } : State).setOffice
  { tenant.office with clock := some 7200 }

/-- Nothing eligible; a CONFIRM behind a ROUTINE of the same client; a ROUTINE alone; the turn past client 3, who has
none; and no choice while a test is in hand, while a client holds, and in FAULT. -/
theorem witness_ArbiterTakesTheClientsInTurn :
    let s := queued inWindow [entry 1 .routine none, entry 2 .confirm none]
    let u := queued inWindow [entry 1 .routine none]
    (queued tenant [entry 1 .routine none]).mayChoose = true ∧
      (∀ x ∈ (queued tenant [entry 1 .routine none]).queue.entries,
        (queued tenant [entry 1 .routine none]).eligible x = false) ∧
      s.mayChoose = true ∧ (∀ x ∈ s.queue.entries, ¬ (x.kind = .urgent ∧ s.eligible x = true)) ∧
      (0 : Client) = s.queue.pointer + 1 ∧
      (∀ j : Fin 4, j < 1 → ∀ x ∈ s.queue.entries, x.client = s.queue.pointer + j → s.eligible x = false) ∧
      s.eligible (entry 2 .confirm none) = true ∧
      (∀ x ∈ [entry 1 .routine none], ¬ (x.client = 0 ∧ x.kind = .confirm ∧ s.eligible x = true)) ∧
      u.eligible (entry 1 .routine none) = true ∧
      (∀ x ∈ u.queue.entries, ¬ (x.client = 0 ∧ x.kind = .confirm ∧ u.eligible x = true)) ∧
      (busy .dark .dark 9 fresh).eng.state ≠ .idle ∧ (∃ c, (holding tenant 3).hold.members.at c = true) ∧
      (tenant.setSel (selAt .fault 0 none)).sel.state = .fault := by decide

/-- A test chosen with the selector homing, and one with it settled at the test's port; a BASELINE in the window. -/
theorem witness_TestStartTakesPlanAndSnapshot :
    let s := queued tenant [entry 1 .urgent none]
    let u := queued (tenant.setSel (selAt .settled 449 (some 7))) [entry 1 .urgent none]
    let v := queued inWindow [entry 1 (.baseline .A) none]
    QueueInv s ∧ s.mayChoose = true ∧ s.choose = some (entry 1 .urgent none, 0) ∧
      ¬ (s.sel.state = .settled ∧ s.sel.target = some 7 ∧ s.sel.offTarget = false) ∧
      QueueInv u ∧ u.mayChoose = true ∧ u.choose = some (entry 1 .urgent none, 0) ∧ u.sel.state = .settled ∧
      u.sel.target = some 7 ∧ u.sel.offTarget = false ∧ (∃ i, u.store.buffers.at i = .free) ∧
      (∀ i, ({ u.store with buffers := Tab.all 4 .reserved } : Store).buffers.at i ≠ .free) ∧
      QueueInv v ∧ v.mayChoose = true ∧ v.choose = some (entry 1 (.baseline .A) none, 1) :=
  ⟨queueInv_one _ _ rfl (by decide) (by decide), by decide, by decide, by decide,
    queueInv_one _ _ rfl (by decide) (by decide), by decide, by decide, by decide, by decide, by decide, by decide,
    by decide, queueInv_one _ _ rfl (by decide) (by decide), by decide, by decide⟩

/-- A selector in each state: SETTLED at port 7 within 1, 2 off, and at another port; MOVING and SETTLING there and
elsewhere; HOMING, LOST and in FAULT. -/
theorem witness_TestStartTakesPlanAndSnapshot_request :
    (selAt .settled 449 (some 7)).offTarget = false ∧ (selAt .settled 449 (some 7)).target = some 7 ∧
      (selAt .settled 450 (some 7)).offTarget = true ∧ (selAt .settled 512 (some 8)).target ≠ some 7 ∧
      (selAt .moving 9 (some 7)).target = some 7 ∧ (selAt .settling 512 (some 8)).target ≠ some 7 ∧
      (selAt .moving 9 (some 7)).state = .moving ∧ (selAt .settling 512 (some 8)).state = .settling ∧
      (selAt .homing 9 none).state = .homing ∧ (selAt .lost 9 (some 3)).state = .lost ∧
      (selAt .fault 9 none).state = .fault := by decide

/-! ### Witnesses: office time -/

/-- An UNSET clock; the last second of a day, of a minute, and one within it; values at both ends of the ranges of SET
CLOCK and SET WINDOW and one beyond them. -/
theorem witness_ClockAndWindowsAreSet :
    tenant.office.clock = none ∧ inWindow.office.clock = some 7200 ∧ 7200 < 86400 ∧ (7200 + 1) % 60 ≠ 0 ∧
      (7259 + 1) % 60 = 0 ∧ 86399 < 86400 ∧ 0 % 60 = 0 ∧ tenant.takes 0 ∧ 86400 ≤ (86400#30).toNat ∧
      (86399#30).toNat < 86400 ∧ 1439 < (1440#30).toNat ∧ (1439#30).toNat ≤ 1439 ∧ (0#30).toNat ≤ 1439 := by
  refine ⟨by decide, by decide, by decide, by decide, by decide, by decide, by decide, tenant_takes.1, ?_⟩
  decide

/-- Each shape of window, at the clock values where it opens and closes. -/
theorem witness_WindowOpensByItsShape :
    tenant.office.clock = none ∧ inWindow.office.clock = some 7200 ∧ (inWindow.office.windows.at 0).start < 300 ∧
      (⟨120, 300⟩ : Window).isOpen (some 7200) = true ∧ (⟨120, 300⟩ : Window).isOpen (some 18000) = false ∧
      (⟨1380, 60⟩ : Window).start > 60 ∧ (⟨60, 60⟩ : Window).isOpen (some 0) = true := by decide

/-- An unclaimed port, a selector in FAULT, a client holding; a claimed port with the window open, with band A enabled
and not, and closed. -/
theorem witness_BandPlanFollowsTheTable :
    (up.port 7).claimant = none ∧ (tenant.setSel (selAt .fault 0 none)).sel.state = .fault ∧
      (∃ c, (holding tenant 2).hold.members.at c = true) ∧ (inWindow.port 7).claimant = some 0 ∧
      inWindow.sel.state ≠ .fault ∧ (∀ d, inWindow.hold.members.at d = false) ∧ inWindow.office.isOpen 0 = true ∧
      (inWindow.port 7).profile.bandAEnable = true ∧ tenant.office.isOpen 0 = false ∧
      ((inWindow.setPort 7 { inWindow.port 7 with
        profile := { Profile.default with bandAEnable := false } }).port 7).profile.bandAEnable = false := by decide

/-! ### Witnesses: the selector -/

/-- The tenant's state with this selector. -/
def turning (st : SelState) (count : Fin 2048) (target : Option PortNo) : State := tenant.setSel (selAt st count target)

/-- The three states that take no further action; MOVING short of the target, onto it and at its third reversal;
SETTLING and SETTLED within 1 and at 2, with the engine HELD and not; the motor 1,024 counts and 1,025 counts from the
target, and 16 and 17. -/
theorem witness_EncoderCountMovesTheRotor :
    let up1 : EncoderEdge := ⟨.A, true, false⟩
    let down1 : EncoderEdge := ⟨.A, true, true⟩
    let third := tenant.setSel { selAt .moving 450 (some 7) with changes := 2 }
    (turning .lost 9 none).sel.state = .lost ∧ (turning .homing 9 none).sel.state = .homing ∧
      (turning .fault 9 none).sel.state = .fault ∧
      (turning .moving 446 (some 7)).sel.target = some 7 ∧
      (after (.encoderCount up1) (turning .moving 446 (some 7))).sel.state = .moving ∧
      (after (.encoderCount up1) (turning .moving 447 (some 7))).sel.state = .settling ∧
      (after (.encoderCount down1) third).sel.state = .lost ∧ third.sel.fresh = false ∧ third.sel.dir = .forward ∧
      (after (.encoderCount up1) (turning .settling 448 (some 7))).sel.state = .settling ∧
      (after (.encoderCount up1) (turning .settling 449 (some 7))).sel.state = .moving ∧
      (after (.encoderCount up1) (turning .settled 448 (some 7))).sel.state = .settled ∧
      (after (.encoderCount up1) (turning .settled 449 (some 7))).sel.state = .moving ∧
      (after (.encoderCount up1) ((busy .held .laser 9 fresh).setSel (selAt .settled 449 (some 7)))).sel.state
        = .settled ∧
      (selAt .moving 0 (some 16)).motor.dir = .forward ∧ (selAt .moving 2047 (some 16)).motor.dir = .backward ∧
      (selAt .moving 1008 (some 16)).motor.creep = true ∧ (selAt .moving 1007 (some 16)).motor.creep = false ∧
      (selAt .homing 5 none).motor.run = true ∧ (selAt .settling 448 (some 7)).motor.run = false := by decide

/-- Each selector state with the timer it may run, and each timer stopped. -/
theorem witness_EncoderErrorAndTimersActByState :
    let moving := tenant.setSel { selAt .moving 9 (some 7) with moveTimer := some 2000000000 }
    let settling := tenant.setSel { selAt .settling 448 (some 7) with settleTimer := some 20000000 }
    (turning .lost 9 none).sel.state = .lost ∧ tenant.sel.state = .homing ∧ tenant.sel.homingTimer.isSome = true ∧
      moving.sel.state = .moving ∧ moving.sel.moveTimer.isSome = true ∧ settling.sel.state = .settling ∧
      settling.sel.settleTimer.isSome = true ∧ (turning .settled 448 (some 7)).sel.state = .settled ∧
      ¬ (moving.sel.homingTimer.isSome = true ∧ moving.sel.state = .homing) ∧
      ¬ (tenant.sel.moveTimer.isSome = true ∧ (tenant.sel.state = .moving ∨ tenant.sel.state = .settling)) ∧
      ¬ (moving.sel.settleTimer.isSome = true ∧ moving.sel.state = .settling) := by decide

/-- Homing to port 0 and to another; LOST; counts 2 and 2046 within the band; counts 3 and 2045 outside it, in each
state, for port 0 and another. -/
theorem witness_IndexEdgeActsByState :
    tenant.sel.state = .homing ∧ tenant.sel.pendingTarget.getD 0 = 0 ∧
      ({ Selector.reset with pendingTarget := some 9 } : Selector).pendingTarget.getD 0 = 9 ∧
      (turning .lost 9 none).sel.state = .lost ∧ (turning .moving 2 (some 7)).sel.count.val ∈ [2046, 2047, 0, 1, 2] ∧
      (turning .moving 2046 (some 7)).sel.count.val ∈ [2046, 2047, 0, 1, 2] ∧
      (turning .moving 3 (some 7)).sel.count.val ∉ [2046, 2047, 0, 1, 2] ∧
      (turning .settling 2045 (some 0)).sel.count.val ∉ [2046, 2047, 0, 1, 2] ∧
      (turning .settled 3 (some 0)).sel.target = some 0 ∧ (turning .settled 3 (some 7)).sel.target = some 7 ∧
      ((busy .held .laser 9 fresh).setSel (selAt .settled 3 (some 7))).eng.state = .held := by decide

theorem witness_HomeFollowsItsTable :
    tenant.takes 0 ∧ (turning .lost 9 none).takes 0 ∧ (turning .lost 9 none).sel.state = .lost ∧
      (turning .settled 448 (some 7)).eng.state = .idle ∧ (busy .held .laser 9 fresh).sel.state = .settled ∧
      (busy .dark .dark 9 fresh).sel.state = .settled ∧ (busy .dark .dark 9 fresh).eng.state = .dark ∧
      tenant.sel.state = .homing :=
  ⟨tenant_takes.1, ⟨by decide, by decide⟩, by decide, by decide, by decide, by decide, by decide, by decide⟩

/-- A parked test: HELD, with a resume point within its band. -/
def parked : State :=
  (busy .held .laser 9 fresh).setEng { (busy .held .laser 9 fresh).eng with resume := some .nextLaser }

/-- Its selector in FAULT, with client 0 alone in the hold set. -/
def faulted : State := holding (parked.setSel (selAt .fault 448 none)) 0

/-- The last member's LINK RESET with its test parked and the selector in FAULT, and with the selector SETTLED. -/
theorem witness_LinkResetDropsTheLinkAndItsQueuedTests_parked :
    (faulted.eng.state = .held ∧ faulted.sel.state = .fault ∧ faulted.hold.members.at 0 = true ∧
      ∀ d, d ≠ 0 → faulted.hold.members.at d = false) ∧
      faulted.queue.running = some (entry 1 .urgent (some fresh)) ∧ fresh.cancelPending = false ∧
      (holding parked 0).queue.running = some (entry 1 .urgent (some fresh)) ∧
      (holding parked 0).sel.state ≠ .fault := by decide

/-- A LINK RESET that ends the parked test as well drains once, when all have left: port 7's latch before port 9's
(R40). -/
theorem test_link_reset_drains_once :
    let s := owned faulted 9 1
    let q := (s.queue.setLatch 7 true).setLatch 9 true
    let t := after (.linkReset 0 1#15) (s.setQueue { q with entries := q.entries ++ [entry 2 (.baseline .A) none] })
    t.queue.entries.map (fun e => (e.ticket, e.port)) = [(1, 7), (2, 9)] ∧ t.eng.state = .idle ∧
      (t.port 7).result.map (fun r => (r.ticket, r.status)) = some (1, .failed) := by decide +kernel

/-- A RESUME of a client that is not in the hold set changes nothing but its link (R160). -/
theorem test_resume_of_no_member :
    (after (.resume 3 1#15) faulted).setHw faulted.hw = faulted := by decide +kernel

/-- The engine IDLE; a parked test; a test while a block is shot and in POSITION, with cancel pending and without, with
a client in the hold set and none, with a resume point and none; and a detached test in each. -/
theorem witness_SelectorReportsReachTheEngine :
    let back := parked.setEng { parked.eng with state := .position }
    tenant.eng.state ≠ .position ∧ tenant.eng.state.shooting = false ∧
      ¬ (tenant.eng.state = .held ∧ (tenant.eng.resume = some .firstLaser ∨ tenant.eng.resume = some .nextLaser)) ∧
      parked.eng.state = .held ∧ parked.eng.resume = some .nextLaser ∧
      (busy .acquire .laser 9 fresh).queue.running = some (entry 1 .urgent (some fresh)) ∧
      (busy .acquire .laser 9 fresh).eng.state.shooting = true ∧ fresh.cancelPending = false ∧
      (busy .position .dark 0 fresh).eng.state = .position ∧ (busy .position .dark 0 fresh).eng.resume = none ∧
      (∃ c, (holding (busy .position .dark 0 fresh) 2).hold.members.at c = true) ∧
      (∀ c, (busy .position .dark 0 fresh).hold.members.at c = false) ∧
      back.eng.resume = some .nextLaser ∧ back.eng.band = some .B ∧
      (queued (busy .acquire .laser 9 fresh) []).queue.running = none ∧
      (queued (busy .position .dark 0 fresh) []).eng.state = .position := by decide

/-! ### Witnesses: acquisition -/

/-- A ROUTINE test RUNNING with a CONFIRM to ask for, a port unclaimed or with a CONFIRM waiting; a detached test; the
hold set empty and not, the engine HELD and not. -/
theorem witness_EndOfTestCarriesOutItsSteps :
    (busy .analyse .laser 0 fresh).queue.running = some (entry 1 .urgent (some fresh)) ∧
      Report.none.asksConfirm = false ∧
      ({ Report.none with findings := [{ (reflection 1 1 1 1) with kind := .step, bands := some .bOnly }] }
        : Report).asksConfirm = true ∧
      (queued tenant [entry 1 .confirm none]).queue.findQueued 7 .confirm ≠ none ∧
      (tenant.port 7).claimant = some 0 ∧ tenant.queue.running = none ∧
      (∀ c, tenant.hold.members.at c = false) ∧ (∃ c, (holding tenant 2).hold.members.at c = true) ∧
      (holding tenant 2).eng.state ≠ .held ∧ (holding parked 2).eng.state = .held := by decide

/-- A dark block, a laser block added and not added, at counters 2 and 1; each boundary's own case; no shot in
progress. -/
theorem witness_ShotAddsItsSamples :
    let s := busy .acquire .laser 2 fresh
    s.eng.snap = some sn ∧ s.eng.band = some .B ∧ s.eng.state.shooting = true ∧ 1 ≤ s.eng.counter ∧
      2 ≤ s.eng.counter ∧ s.eng.kind = .laser ∧ s.eng.sampling = true ∧
      ({ s.eng with sampling := false } : Engine).kind = .laser ∧ (busy .dark .dark 1 fresh).eng.kind = .dark ∧
      (busy .dark .dark 1 fresh).eng.counter = 1 ∧ (busy .draining .laser 1 fresh).eng.state = .draining ∧
      (busy .acquire .laser 1 fresh).eng.state ≠ .draining ∧ tenant.eng.state.shooting = false ∧
      tenant.eng.counter = 0 := by decide

theorem witness_DarkAndDrainedBoundariesFollowTheirCases :
    (busy .dark .dark 0 fresh).eng.kind = .dark ∧ (busy .draining .laser 0 fresh).eng.kind = .laser ∧
      (busy .draining .laser 0 fresh).eng.state = .draining ∧ (busy .draining .dark 0 fresh).eng.kind = .dark ∧
      (busy .dark .dark 0 fresh).queue.running = some (entry 1 .urgent (some fresh)) ∧
      (busy .dark .dark 0 fresh).eng.state ≠ .draining ∧ (queued (busy .dark .dark 0 fresh) []).queue.running = none ∧
      ({ fresh with cancelPending := true } : RunInfo).cancelPending = true := by decide

/-- With `n` blocks done of band b. -/
def blocks (n : Nat) (b : Band) (ri : RunInfo) : State :=
  (busy .acquire .laser 0 ri).setEng { (busy .acquire .laser 0 ri).eng with blocksDone := n, band := some b }

/-- The last block but one and the last of sixteen, of band B with band A planned, the window open and not, and of
band A; and a detached test. -/
theorem witness_LaserBoundaryFollowsItsCases :
    (blocks 14 .B fresh).eng.kind = .laser ∧ (blocks 14 .B fresh).eng.state ≠ .draining ∧
      (blocks 14 .B fresh).queue.running = some (entry 1 .urgent (some fresh)) ∧ 14 + 1 < 2 ^ sn.averages / 256 ∧
      2 ^ sn.averages / 256 ≤ 15 + 1 ∧ fresh.plan.a = true ∧ (blocks 15 .B fresh).ownerWindowOpen 7 = false ∧
      ((blocks 15 .B fresh).setOffice inWindow.office).ownerWindowOpen 7 = true ∧
      (blocks 15 .A { fresh with cancelPending := true }).eng.band = some .A ∧
      (queued (blocks 15 .B fresh) []).queue.running = none ∧ (queued (blocks 15 .B fresh) []).eng.kind = .laser ∧
      (queued (blocks 15 .B fresh) []).eng.state ≠ .draining := by decide

/-- A trace of no light. -/
def darkTrace : Trace := { points := List.replicate 8 ⟨0, true, false⟩, endIndex := 0, dark := 0 }

/-- No analysis; a detached test; a test that is compared; a BASELINE test with its trace and its reserved buffer. -/
theorem witness_AnalysisEndCompletesTheTest :
    let s := (busy .analyse .laser 0 fresh).setEng
      { (busy .analyse .laser 0 fresh).eng with analysisTimer := some 10240000, traces := ⟨some darkTrace, none⟩ }
    let u := (queued s [entry 1 (.baseline .A) (some fresh)]).setStore s.store.reserve
    tenant.eng.analysisTimer = none ∧ s.eng.state = .analyse ∧ s.eng.analysisTimer.isSome = true ∧
      (queued s []).queue.running = none ∧ s.queue.running = some (entry 1 .urgent (some fresh)) ∧
      s.eng.snap = some sn ∧ u.queue.running = some (entry 1 (.baseline .A) (some fresh)) ∧
      u.eng.traces.at .A = some darkTrace ∧ u.store.reservedBuffer = some 0 := by decide

/-- A last-trace pair of port 7, band A, of 1,024 points. -/
def lastPair : LastPair where
  port := 7
  ticket := 1
  kind := .routine
  points := 1024
  period := 2
  pulse := 2
  averages := 8
  groupIndex := 146800
  traces := ⟨some darkTrace, none⟩

/-- A baseline of a port's band. -/
def capture (p : PortNo) (b : Band) (ticket : Nat) : Capture where
  port := p
  band := b
  points := 1024
  period := 2
  pulse := 2
  averages := 8
  groupIndex := 146800
  endIndex := 14
  dark := 0
  ticket := ticket
  time := none
  levels := []

/-- `s` with a baseline of port 7, band A, in its slot. -/
def based (s : State) : State :=
  s.setStore { s.store with slots := s.store.slots.put 14 (some (capture 7 .A 70)) }

/-- Unknown band, counts 0, 1, 60 and 61, an unknown source; no pair, another port's pair, no trace of the band, and one
at the first indexes 1,023 and 1,024; the slot EMPTY and VALID. -/
theorem witness_GetTraceServesPairAndBaseline :
    let s := based (tenant.setEng { tenant.eng with lastPair := some lastPair })
    (tenant.takes 0 ∧ s.takes 0) ∧ (s.port 7).claimant = some 0 ∧ 2 ≤ (2#30).toNat ∧ (0#30).toNat = 0 ∧
      60 < (61#30).toNat ∧ (60#30).toNat ≤ 60 ∧ 1 ≤ (1#30).toNat ∧ tenant.eng.lastPair = none ∧
      s.eng.lastPair = some lastPair ∧ lastPair.port ≠ 8 ∧ lastPair.traces.at .B = none ∧
      lastPair.traces.at .A = some darkTrace ∧ lastPair.points ≤ (1024#30).toNat ∧ (1023#30).toNat < lastPair.points ∧
      tenant.store.read (slotOf 7 .A) = none ∧ s.store.read (slotOf 7 .A) = some (capture 7 .A 70) ∧
      pointHalf ⟨-4096, true, false⟩ = 0b1_0_0000000000000#15 ∧
      pointHalf ⟨3071, false, true⟩ = 0b0_1_1101111111111#15 ∧
      pointWords [⟨-4096, true, false⟩] = [0b1_0_0000000000000_111111111111111#30] := by
  refine ⟨⟨tenant_takes.1, ⟨by decide, by decide⟩⟩, ?_⟩
  decide +kernel

/-! ### Witnesses: traces, findings and faults -/

/-- Signals 1, 255 and 256 around the eighth bit; k at 8 and 16 with the largest sum; a sum equal to N × D and one above
it; equal means at two k; the first and the last pulse code; the smallest G. -/
theorem witness_LevelsFollowTheMeanSignal :
    2 ^ 0 ≤ 1 ∧ 1 < 2 ^ (0 + 1) ∧ 2 ^ 7 ≤ 255 ∧ 255 < 2 ^ (7 + 1) ∧ 2 ^ 8 ≤ 256 ∧ 256 < 2 ^ (8 + 1) ∧
      (8 ≤ 8 → 0 = 256 / 2 ^ (8 - 8) - 256) ∧ 1048320 ≤ 4095 * 2 ^ 8 ∧ 268369920 ≤ 4095 * 2 ^ 16 ∧
      51200 ≤ 2 ^ 8 * 200 ∧ 2 ^ 8 * 200 < 51201 ∧ 2 ^ 10 * 200 < 1843200 ∧ 2 ^ 12 * 0 < 6553600 ∧
      (1843200 - 2 ^ 10 * 200) * 2 ^ 12 = (6553600 - 2 ^ 12 * 0) * 2 ^ 10 ∧
      [10, 30, 100, 300, 1000, 3000, 10000][0]? = some 10 ∧ [10, 30, 100, 300, 1000, 3000, 10000][6]? = some 10000 ∧
      0 < 140000 := by decide

theorem witness_EndIndexIsTheFirstDarkRun :
    darkTrace.points.length = 8 ∧
      (∀ j, j < 8 → ∃ q, darkTrace.points[0 + j]? = some q ∧ q.below = true) ∧
      ¬ (∀ j, j < 8 → ∃ q, darkTrace.points[1 + j]? = some q ∧ q.below = true) := by
  refine ⟨by decide, fun j hj => ?_, fun h => ?_⟩
  · exact ⟨⟨0, true, false⟩, (by decide : ∀ j, j < 8 → darkTrace.points[0 + j]? = some ⟨0, true, false⟩) j hj, rfl⟩
  · obtain ⟨q, hq, _⟩ := h 7 (by decide)
    simp [darkTrace] at hq

/-- A band that matches, one that does not, and none. -/
theorem witness_FindingsListHasItsForm :
    1 ≤ sn.smoothing ∧ 1 ≤ sn.confirmLength ∧
      (View.valid { capture 7 .A 70 with points := 4096 }).matchWith sn = .matching ∧
      (View.valid (capture 7 .A 70)).matchWith sn = .mismatch ∧ View.empty.matchWith sn = .noBaseline ∧
      (analyse sn .routine 7 ⟨some { darkTrace with endIndex := 4096 }, none⟩
        ⟨some (.valid { capture 7 .A 70 with points := 4096 }), none⟩ []).missCount = true ∧
      (⟨{ darkTrace with endIndex := 0 }, { capture 7 .A 70 with endIndex := 9 }⟩ : BandInput).live.endIndex + 8 < 9 ∧
      ¬ ((⟨{ darkTrace with endIndex := 1 }, { capture 7 .A 70 with endIndex := 9 }⟩ : BandInput).live.endIndex + 8
        < 9) := by decide +kernel

/-- One band that takes part: band A primary, band B not in the comparison. -/
theorem witness_FindingsListHasItsForm_bands :
    let t := { darkTrace with endIndex := 4096 }
    let k := { capture 7 .A 70 with points := 4096 }
    let y : BandInput := { live := t, base := k }
    let traces : PerBand (Option Trace) := ⟨some t, none⟩
    let views : PerBand (Option View) := ⟨some (.valid k), none⟩
    let x : PerBand (Option BandInput) := ⟨some y, none⟩
    (∀ c z, x.at c = some z ↔ ∃ t k, traces.at c = some t ∧ views.at c = some (.valid k) ∧
      k.points = sn.points ∧ k.period = sn.period ∧ k.pulse = sn.pulse ∧ z = { live := t, base := k }) ∧
      x.b = none ∧ x.at .A = some y := by
  refine ⟨?_, rfl, rfl⟩
  intro c z
  cases c
  · constructor
    · intro h
      exact ⟨_, _, rfl, rfl, by decide, by decide, by decide, (Option.some.inj h).symm⟩
    · rintro ⟨t, k, ht, hk, -, -, -, rfl⟩
      cases ht
      cases hk
      rfl
  · exact ⟨fun h => (Option.some_ne_none _ h.symm).elim, fun ⟨_, _, h, _⟩ => (Option.some_ne_none _ h.symm).elim⟩

/-- A band of 32 points whose light ends at 20, 10 short of its baseline, with a run of points 18 and 19. -/
def nearEnd : BandInput where
  live := { darkTrace with
    points := (List.range 32).map (fun i => ⟨if i = 18 ∨ i = 19 then 300 + i else 0, false, i = 19⟩), endIndex := 20 }
  base := { capture 7 .A 70 with endIndex := 30 }

/-- The break of that band lies at the run; without a run it lies at the live end. -/
theorem witness_FindingsListHasItsForm_break :
    (nearEnd.bandBreak { sn with points := 32 }).map (fun k => k.location) = some 18 ∧
      (nearEnd.runs { sn with points := 32 }).map (fun r => (r.points, r.height, r.saturated)) =
        [([18, 19], 319, true)] ∧
      (nearEnd.bandBreak { sn with points := 32, reflectionThreshold := 1023 }).map (fun k => k.location) =
        some 20 := by decide

/-- The scan of 7.8 has its first onset at 3,699 and its last defined index at 3,710. -/
theorem witness_FindingsListHasItsForm_onset :
    (∀ j, j < sn.confirmLength → ∃ v, bendDeficits (3699 + j) = some v ∧ (sn.stepThreshold : Int) ≤ v - 2) ∧
      ¬ (∃ v, bendDeficits 3698 = some v ∧ (sn.stepThreshold : Int) ≤ v - 2) ∧
      (∀ i, 3690 + 30 ≤ i → bendDeficits i = none) ∧ bendDeficits (3699 + sn.confirmLength - 1) = some 30 := by
  refine ⟨?_, ?_, ?_, rfl⟩
  · intro j hj
    replace hj : j < 8 := hj
    have h : ∀ j, j < 8 → bendDeficits (3699 + j) = some (if j = 0 then 23 else 30) := by decide
    exact ⟨_, h j hj, by split <;> decide⟩
  · rintro ⟨v, hv, h⟩
    cases hv
    exact absurd h (by decide)
  · intro i hi
    simp only [bendDeficits]
    repeat' rw [if_neg (by omega)]

/-- A band of equal traces: its deficits are 0. -/
theorem witness_FindingsListHasItsForm_deficit :
    let x : BandInput := { live := { darkTrace with points := [], endIndex := 40 }, base := capture 7 .A 70 }
    ∀ i, sn.i0 ≤ i → (¬ x.isMasked sn i → (0 : Int) = -(x.rv i)) ∧
      (x.isMasked sn i → (0 : Int) = if i = sn.i0 then 0 else 0) := by
  intro x i _
  exact ⟨fun _ => rfl, fun _ => by simp⟩

/-- `n` fault entries of port 7, far apart, in a state. -/
def faults (n : Nat) (st : FaultState) : List FaultEntry :=
  (List.range n).map (fun i =>
    { newEntry i 7 (reflection (20 * i) (200 * i) 300 1763) 1021091 300 with state := st })

/-- A candidate at the match distance and none beyond it; room for one entry; a full table whose oldest entry is
CLEARED; and a full one with none CLEARED. -/
theorem witness_FoldTakesAFinding :
    let f := reflection 25 250 300 1763
    ((faults 2 .active).map (fun e => e.id)).Nodup ∧ (∀ e ∈ faults 2 .active, e.id < 64) ∧
      (∃ e ∈ faults 2 .active, e.port = 7 ∧ e.det.kind = f.kind ∧ e.det.distance + 50 = f.distance ∧ e.id ∉ []) ∧
      (∀ e ∈ faults 2 .active, ¬ (e.det.distance ≤ f.distance + 49 ∧ f.distance ≤ e.det.distance + 49)) ∧
      (faults 63 .active).length < 64 ∧ 64 ≤ (faults 64 .cleared).length ∧
      (∃ old newer, faults 64 .cleared = [] ++ old :: newer ∧ old.state = .cleared) ∧
      64 ≤ (faults 64 .active).length ∧ (∀ g ∈ faults 64 .active, g.state ≠ .cleared) := by
  refine ⟨by decide, by decide, by decide, by decide, by decide, by decide, ⟨_, _, rfl, rfl⟩, by decide, by decide⟩

/-- An entry missed for the first time and one that its kind's limit clears, below the limit by index and by distance;
an unreported BREAK; a STEP of band B only that is reclassified. -/
theorem witness_FoldTakesAFinding_misses :
    let e := newEntry 3 7 { (reflection 25 250 300 1763) with kind := .step, bands := some .bOnly } 1021091 300
    (e.port = 7 ∧ e.id ∉ ([] : List Nat) ∧ e.state ≠ .cleared) ∧ (e.spacing = 1021091 ∧ e.det.location < 26) ∧
      (e.spacing ≠ 1011446 ∧ e.det.distance < (25 * 1011446 + 50000) / 100000) ∧
      (if e.det.kind = .brk then 1 else 3) ≤ ({ e with misses := 2 } : FaultEntry).misses + 1 ∧
      ¬ (if e.det.kind = .brk then 1 else 3) ≤ e.misses + 1 ∧
      (e.id = 3 ∧ e.det.kind = .step ∧ e.det.bands = some .bOnly) ∧
      (if FaultKind.brk = .brk then 1 else 3) ≤ 0 + 1 := by decide

/-- Positions and ids 63 and 64; an id no entry of the port holds, one of an ACTIVE entry and one of a CLEARED entry. -/
theorem witness_FindingRequestsActOnTheTable :
    (tenant.setFaults (faults 2 .active)).takes 0 ∧ (tenant.port 7).claimant = some 0 ∧ 64 ≤ (64#30).toNat ∧
      (63#30).toNat < 64 ∧ (∀ e ∈ faults 2 .active, e.id = (63#30).toNat → e.port ≠ 7) ∧
      ((faults 2 .active).map (fun e => e.id)).Nodup ∧
      (∃ e ∈ faults 2 .active, e.id = (1#30).toNat ∧ e.port = 7 ∧ e.state ≠ .cleared) ∧
      (∃ e ∈ faults 2 .cleared, e.id = (1#30).toNat ∧ e.port = 7 ∧ e.state = .cleared) := by
  refine ⟨⟨by decide, by decide⟩, ?_⟩
  decide

/-! ### Witnesses: the store -/

/-- `s` with a WRITE of slot 20 in progress and, behind it, these entries. -/
def committing (s : State) (es : List Commit) : State :=
  s.setStore { s.store with
    buffers := s.store.buffers.put 0 (.held (capture 10 .A 80))
    commits := { slot := 20, op := .write 0, writing := true } :: es
    programming := some 80000000 }

/-- A WRITE of port 7's band A waiting behind another. -/
def replacing : State :=
  (committing tenant [{ slot := 14, op := .write 1, writing := false }]).setStore
    { (committing tenant [{ slot := 14, op := .write 1, writing := false }]).store with
      buffers := ((committing tenant []).store.buffers.put 1 (.held (capture 7 .A 90))) }

/-- An ERASE of slot 20 being programmed. -/
def erasing : State :=
  tenant.setStore { tenant.store with
    commits := [{ slot := 20, op := .erase, writing := true }]
    programming := some 20000000 }

theorem tenant_storeInv : StoreInv tenant :=
  ⟨fun _ _ h => (List.cons_ne_nil _ _ h.symm).elim, fun _ h => absurd h List.not_mem_nil, by decide⟩

theorem based_storeInv : StoreInv (based tenant) :=
  ⟨fun _ _ h => (List.cons_ne_nil _ _ h.symm).elim, fun _ h => absurd h List.not_mem_nil, by decide⟩

theorem committing_storeInv : StoreInv (committing (based tenant) []) := by
  refine ⟨?_, ?_, by decide⟩
  · intro e rest h
    cases h
    decide
  · intro e he i hi
    cases List.mem_singleton.mp he
    cases hi
    exact ⟨capture 10 .A 80, by decide⟩

theorem replacing_storeInv : StoreInv replacing := by
  refine ⟨?_, ?_, by decide⟩
  · intro e rest h
    cases h
    decide
  · intro e he i hi
    rcases List.mem_cons.mp he with rfl | he
    · cases hi
      exact ⟨capture 10 .A 80, by decide⟩
    · cases List.mem_singleton.mp he
      cases hi
      exact ⟨capture 7 .A 90, by decide⟩

/-- Bands 0, 1 and 2; a slot that reads EMPTY; a QUEUED WRITE of the slot; a queue with room, empty and not; and one
with an occupancy of 4. The three places of an operation of slot 14 are the QUEUED WRITE, the end of the queue, and an
empty queue. -/
theorem witness_BaselineInfoAndEraseActOnTheStore :
    tenant.takes 0 ∧ (tenant.port 7).claimant = some 0 ∧ 2 ≤ (2#30).toNat ∧ (1#30).toNat = 1 ∧
      tenant.store.read (slotOf 7 .A) = none ∧ StoreInv replacing ∧ replacing.store.read (slotOf 7 .A) ≠ none ∧
      (∃ e ∈ replacing.store.commits, e.slot = slotOf 7 .A ∧ e.writing = false ∧ e.op = .write 1) ∧
      StoreInv (based tenant) ∧ (based tenant).store.read (slotOf 7 .A) ≠ none ∧ (based tenant).store.occupancy < 4 ∧
      (based tenant).store.commits = [] ∧ StoreInv (committing (based tenant) []) ∧
      (committing (based tenant) []).store.read (slotOf 7 .A) ≠ none ∧
      (committing (based tenant) []).store.occupancy = 1 ∧
      4 ≤ (committing (based tenant) [{ slot := 1, op := .erase, writing := false },
        { slot := 2, op := .erase, writing := false }, { slot := 3, op := .erase, writing := false }]).store.occupancy :=
  ⟨tenant_takes.1, by decide, by decide, by decide, by decide, replacing_storeInv, by decide,
    ⟨_, List.mem_cons_of_mem _ (List.mem_singleton.mpr rfl), by decide, rfl, rfl⟩, based_storeInv, by decide,
    by decide, by decide, committing_storeInv, by decide, by decide, by decide⟩

theorem erasing_storeInv : StoreInv erasing := by
  refine ⟨?_, ?_, by decide⟩
  · intro e rest h
    cases h
    decide
  · intro e he i hi
    cases List.mem_singleton.mp he
    cases hi

/-- Every level record is compared: one that reads back otherwise fails the verify, the buffer's own contents
pass it. -/
theorem test_verify_compares_level_records :
    let k := { capture 7 .A 90 with levels := [⟨100, false, false⟩, ⟨90, false, false⟩] }
    let st := { tenant.store with buffers := tenant.store.buffers.put 2 (.held k) }
    st.verifies (.write 2) (.valid k) = true ∧
      st.verifies (.write 2) (.valid { k with levels := [⟨100, false, false⟩, ⟨90, true, false⟩] }) = false ∧
      st.verifies (.write 2) (.valid { k with endIndex := k.endIndex + 1 }) = false ∧
      st.verifies (.write 2) .other = false ∧ st.verifies .erase .other = false := by decide

/-- No entry; a WRITING head with an entry behind it and alone, of a WRITE and of an ERASE, read back as it was meant
and otherwise; a claimed and an unclaimed port. -/
theorem witness_ProgrammingEndTakesTheHead :
    replacing.store.buffers.at 0 = .held (capture 10 .A 80) ∧
      replacing.store.verifies (.write 0) (.valid (capture 10 .A 80)) = true ∧
      replacing.store.verifies (.write 0) .empty = false ∧
      StoreInv erasing ∧ erasing.store.commits = [{ slot := 20, op := .erase, writing := true }] ∧
      erasing.store.verifies .erase .empty = true ∧ erasing.store.verifies .erase .other = false ∧
    tenant.store.commits = [] ∧ StoreInv replacing ∧
      replacing.store.commits = { slot := 20, op := .write 0, writing := true } ::
        [{ slot := 14, op := .write 1, writing := false }] ∧
      (committing (based tenant) []).store.commits = [{ slot := 20, op := .write 0, writing := true }] ∧
      (replacing.port ⟨20 / 2, by omega⟩).claimant = none ∧ ((owned replacing 10 2).port 10).claimant = some 2 :=
  ⟨rfl, by decide, by decide, erasing_storeInv, rfl, by decide, by decide, by decide, replacing_storeInv, rfl, rfl,
    by decide, by decide⟩

/-! ### Witnesses: the hold -/

/-- A SETTLED selector 2 counts and 1 count from its target. -/
theorem witness_HoldAndResumeFollowTheirTables_redrive :
    1 < min ((450 + 2048 - 64 * 7) % 2048) ((64 * 7 + 2048 - 450) % 2048) ∧
      ¬ 1 < min ((449 + 2048 - 64 * 7) % 2048) ((64 * 7 + 2048 - 449) % 2048) ∧
      (selAt .settled 450 (some 7)).deferredMove.state = .moving ∧
      (selAt .settled 449 (some 7)).deferredMove = selAt .settled 449 (some 7) := by decide

/-- No member, the client a member, another one; each engine state; a parked test and none; the timer running. -/
theorem witness_HoldAndResumeFollowTheirTables :
    tenant.takes 0 ∧ (∀ d, tenant.hold.members.at d = false) ∧ tenant.eng.state = .idle ∧
      (holding tenant 0).hold.members.at 0 = true ∧ (∃ d, (holding tenant 2).hold.members.at d = true) ∧
      (holding tenant 2).hold.members.at 0 = false ∧ (busy .acquire .laser 9 fresh).eng.state = .acquire ∧
      (∃ d, d ≠ 0 ∧ (holding (holding tenant 0) 2).hold.members.at d = true) ∧
      (∀ d, d ≠ 0 → (holding tenant 0).hold.members.at d = false) ∧
      (holding (busy .draining .dark 9 fresh) 0).eng.kind = .dark ∧
      (holding (busy .draining .laser 9 fresh) 0).eng.kind = .laser ∧ (holding parked 0).eng.state = .held ∧
      (holding parked 0).queue.running = some (entry 1 .urgent (some fresh)) ∧
      (after (.hold 0 0#15) tenant).eng.state = .held ∧ (after (.hold 0 0#15) tenant).queue.running = none ∧
      (after (.hold 0 0#15) tenant).hold.timer.isSome = true ∧ tenant.hold.timer = none := by
  refine ⟨tenant_takes.1, ?_⟩
  decide

/-! ### Witnesses: the invariants -/

/-- A test in ACQUIRE with its laser triggered, a SHOT waiting. -/
def firing : State :=
  ((busy .acquire .laser 9 fresh).setEng
    { (busy .acquire .laser 9 fresh).eng with trigger := some .B }).setPending [.shot ⟨0#12, []⟩]

theorem firing_step : ∃ t, step firing = .next t := ⟨_, rfl⟩

theorem firing_queueInv : QueueInv firing := busy_queueInv .acquire .laser 9 fresh (by decide)

/-- The state with a SHOT waiting, with a latch and without; and one where a ROUTINE waits for its window. -/
theorem witness_EveryStepKeepsQueueAndTenancy :
    ((∃ t, step firing = .next t) ∧ QueueInv firing ∧ TenancyInv firing ∧ OfficeInv firing) ∧
      (WaitingInv firing ∧ WaitingInv (firing.setQueue (firing.queue.setLatch 7 true))) ∧
      ChoiceInv firing ∧ (queued tenant [entry 1 .routine none]).mayChoose = true ∧
      ChoiceInv (queued tenant [entry 1 .routine none]) := by
  refine ⟨⟨firing_step, firing_queueInv, ⟨by decide, by decide, by decide⟩, fun v h => (by cases h), by decide⟩,
    ⟨⟨by decide, by decide, by decide⟩, by decide, by decide, fun p h => .inl ⟨entry 1 .urgent (some fresh), ?_⟩⟩,
    fun h => absurd h (by decide), by decide, fun _ => by decide⟩
  have hp : ∀ p, (firing.queue.setLatch 7 true).latches.at p = true → (7 : PortNo) = p := by decide
  exact ⟨List.mem_singleton.mpr rfl, rfl, hp p h, rfl⟩

theorem witness_EveryStepKeepsTheLightSafe :
    (∃ t, step firing = .next t) ∧ LaserInv firing ∧ QueueInv firing ∧ HoldInv firing ∧ LightInv firing := by
  refine ⟨firing_step, ?_, firing_queueInv, (by rintro (h | h) <;> cases h), ?_, ?_⟩
  · intro b hb
    cases hb
    decide
  · intro h
    exact absurd h (by decide)
  · intro _
    refine ⟨by decide, ?_⟩
    intro e he
    cases (show some (entry 1 .urgent (some fresh)) = some e from he)
    decide

theorem witness_EveryStepKeepsTheStore :
    let s := replacing.setPending [.programmingEnd .other]
    (∃ t, step s = .next t) ∧ StoreInv s ∧ OccupancyInv s ∧ QueueInv s := by
  refine ⟨⟨_, rfl⟩, replacing_storeInv, ⟨by decide, by decide, fun _ => by decide⟩, ?_⟩
  exact ⟨by decide, by decide, by decide, by decide, fun _ => by decide⟩

theorem witness_EveryStepKeepsFaultsClockAndProfiles :
    let s := ((inWindow.setFaults (faults 2 .active)).setPending [.clockAdvance])
    (∃ t, step s = .next t) ∧ FaultsInv s ∧ OfficeInv s ∧ ProfilesInv s := by
  refine ⟨⟨_, rfl⟩, ⟨by decide, by decide, by decide, by decide⟩, ⟨?_, by decide⟩, ?_⟩
  · intro v hv
    cases hv
    decide
  · exact show ∀ p, (inWindow.port p).profile.legal = true by decide

end Sys2Proof.Tests
end

section
/-! SUPPORT. The test queue's searches as statements about its entries, and what each change of the queue does to the
entries, the latches and the RUNNING entry (R19 to R21). -/

namespace Sys2Proof.Machine

/-! ### Searches -/

theorem Entry.waitsAs_iff (e : Entry) (p : PortNo) (k : Kind) :
    e.waitsAs p k = true ↔ e.run = none ∧ e.port = p ∧ e.kind = k := by
  simp [Entry.waitsAs, and_assoc]

theorem TestQueue.findQueued_eq_none (q : TestQueue) (p : PortNo) (k : Kind) :
    q.findQueued p k = none ↔ ∀ e ∈ q.entries, ¬ (e.run = none ∧ e.port = p ∧ e.kind = k) := by
  simp only [TestQueue.findQueued, List.find?_eq_none, Entry.waitsAs_iff]

theorem TestQueue.running_eq_none (q : TestQueue) : q.running = none ↔ ∀ e ∈ q.entries, e.run = none := by
  simp [TestQueue.running, List.find?_eq_none]

theorem TestQueue.running_eq_some {q : TestQueue} {e : Entry} (h : q.running = some e) :
    e ∈ q.entries ∧ e.run.isSome = true :=
  ⟨List.mem_of_find?_eq_some h, List.find?_some (p := fun e : Entry => e.run.isSome) h⟩

theorem TestQueue.urgentRunning_iff (q : TestQueue) (p : PortNo) :
    q.urgentRunning p = true ↔ ∃ e ∈ q.entries, e.run.isSome = true ∧ e.port = p ∧ e.kind = .urgent := by
  simp [TestQueue.urgentRunning, and_assoc]

theorem TestQueue.isFull_iff (q : TestQueue) : q.isFull = true ↔ Config.queueCapacity ≤ q.entries.length := by
  simp [TestQueue.isFull]

theorem TestQueue.isFull_eq_false (q : TestQueue) : q.isFull = false ↔ q.entries.length < Config.queueCapacity := by
  simp [TestQueue.isFull]

/-! ### Changes -/

/-- The entry an admission appends (R21, R24). -/
def TestQueue.newEntry (q : TestQueue) (c : Client) (p : PortNo) (k : Kind) (o : Origin) : Entry :=
  { ticket := q.nextTicket, client := c, port := p, kind := k, origin := o, run := none }

@[simp] theorem TestQueue.addEntry_entries (q : TestQueue) (c : Client) (p : PortNo) (k : Kind) (o : Origin) :
    (q.addEntry c p k o).entries = q.entries ++ [q.newEntry c p k o] := rfl
@[simp] theorem TestQueue.addEntry_latches (q : TestQueue) (c : Client) (p : PortNo) (k : Kind) (o : Origin) :
    (q.addEntry c p k o).latches = q.latches := rfl
@[simp] theorem TestQueue.drop_latches (q : TestQueue) (f : Entry → Bool) : (q.drop f).latches = q.latches := rfl
@[simp] theorem TestQueue.setRun_latches (q : TestQueue) (f : RunInfo → RunInfo) :
    (q.setRun f).latches = q.latches := rfl
@[simp] theorem TestQueue.upgrade_latches (q : TestQueue) (p : PortNo) : (q.upgrade p).latches = q.latches := rfl
@[simp] theorem TestQueue.setLatch_entries (q : TestQueue) (p : PortNo) (v : Bool) :
    (q.setLatch p v).entries = q.entries := rfl
theorem TestQueue.setLatch_at (q : TestQueue) (p r : PortNo) (v : Bool) :
    (q.setLatch p v).latches.at r = if p = r then v else q.latches.at r := Tab.at_put ..

theorem TestQueue.mem_drop (q : TestQueue) (f : Entry → Bool) (e : Entry) :
    e ∈ (q.drop f).entries ↔ e ∈ q.entries ∧ f e = false := by
  simp [TestQueue.drop]

theorem TestQueue.length_drop_lt (q : TestQueue) (f : Entry → Bool) (h : ∃ e ∈ q.entries, f e = true) :
    (q.drop f).entries.length < q.entries.length := by
  obtain ⟨e, he, hf⟩ := h
  exact List.length_filter_lt_length_iff_exists.2 ⟨e, he, by simp [hf]⟩

theorem TestQueue.mem_setRun (q : TestQueue) (f : RunInfo → RunInfo) (e : Entry) :
    e ∈ (q.setRun f).entries ↔ ∃ x ∈ q.entries, e = { x with run := x.run.map f } := by
  simp [TestQueue.setRun, eq_comm]

/-- What an upgrade makes of one entry (R23). -/
def Entry.upgraded (e : Entry) (p : PortNo) : Entry := if e.waitsAs p .routine then { e with kind := .urgent } else e

theorem TestQueue.upgrade_entries (q : TestQueue) (p : PortNo) :
    (q.upgrade p).entries = q.entries.map (fun e => e.upgraded p) := rfl

@[simp] theorem Entry.upgraded_ticket (e : Entry) (p : PortNo) : (e.upgraded p).ticket = e.ticket := by
  unfold Entry.upgraded; split <;> rfl
@[simp] theorem Entry.upgraded_run (e : Entry) (p : PortNo) : (e.upgraded p).run = e.run := by
  unfold Entry.upgraded; split <;> rfl
@[simp] theorem Entry.upgraded_port (e : Entry) (p : PortNo) : (e.upgraded p).port = e.port := by
  unfold Entry.upgraded; split <;> rfl
@[simp] theorem Entry.upgraded_client (e : Entry) (p : PortNo) : (e.upgraded p).client = e.client := by
  unfold Entry.upgraded; split <;> rfl
@[simp] theorem Entry.upgraded_origin (e : Entry) (p : PortNo) : (e.upgraded p).origin = e.origin := by
  unfold Entry.upgraded; split <;> rfl

/-- What the start of a test makes of one entry (R33). -/
def Entry.started (e : Entry) (ticket : Nat) (plan : BandSet) : Entry :=
  if e.ticket = ticket then
    { e with run := some { plan := plan, done := ⟨false, false⟩, suspended := false, cancelPending := false } }
  else e

theorem TestQueue.start_entries (q : TestQueue) (ticket : Nat) (plan : BandSet) :
    (q.start ticket plan).entries = q.entries.map (fun e => e.started ticket plan) := rfl

@[simp] theorem Entry.started_ticket (e : Entry) (n : Nat) (plan : BandSet) : (e.started n plan).ticket = e.ticket := by
  unfold Entry.started; split <;> rfl
@[simp] theorem Entry.started_port (e : Entry) (n : Nat) (plan : BandSet) : (e.started n plan).port = e.port := by
  unfold Entry.started; split <;> rfl
@[simp] theorem Entry.started_client (e : Entry) (n : Nat) (plan : BandSet) : (e.started n plan).client = e.client := by
  unfold Entry.started; split <;> rfl
@[simp] theorem Entry.started_kind (e : Entry) (n : Nat) (plan : BandSet) : (e.started n plan).kind = e.kind := by
  unfold Entry.started; split <;> rfl

/-- An entry that is QUEUED after a start is one that was not started. -/
theorem Entry.started_of_run_eq_none {e : Entry} {n : Nat} {plan : BandSet} (h : (e.started n plan).run = none) :
    e.started n plan = e := by
  unfold Entry.started at h ⊢
  split at h
  · cases h
  · rename_i hn; rw [if_neg hn]

/-! ### The RUNNING entry after a change -/

@[simp] theorem TestQueue.setLatch_running (q : TestQueue) (p : PortNo) (v : Bool) :
    (q.setLatch p v).running = q.running := rfl

@[simp] theorem TestQueue.addEntry_running (q : TestQueue) (c : Client) (p : PortNo) (k : Kind) (o : Origin) :
    (q.addEntry c p k o).running = q.running := by
  simp [TestQueue.running, List.find?_append, TestQueue.newEntry]

@[simp] theorem TestQueue.upgrade_running (q : TestQueue) (p : PortNo) : (q.upgrade p).running = q.running := by
  unfold TestQueue.running
  rw [TestQueue.upgrade_entries, List.find?_map]
  have hc : (fun e : Entry => e.run.isSome) ∘ (fun e : Entry => e.upgraded p) = fun e => e.run.isSome := by
    funext e; simp
  rw [hc]
  cases h : q.entries.find? (fun e => e.run.isSome) with
  | none => rfl
  | some e =>
    have hr : e.run.isSome = true := List.find?_some (p := fun e : Entry => e.run.isSome) h
    have hw : e.waitsAs p .routine = false := by
      rw [← Bool.not_eq_true, Entry.waitsAs_iff]
      rintro ⟨hn, -⟩
      simp [hn] at hr
    simp [Entry.upgraded, hw]

theorem TestQueue.drop_running_run (q : TestQueue) : (q.drop (fun x => x.run.isSome)).running = none := by
  rw [TestQueue.running_eq_none]
  intro e he
  simpa using (q.mem_drop _ e).1 he |>.2

theorem TestQueue.drop_running_none (q : TestQueue) (h : q.running = none) (f : Entry → Bool) :
    (q.drop f).running = none := by
  rw [TestQueue.running_eq_none] at h ⊢
  exact fun e he => h e ((q.mem_drop f e).1 he).1

theorem TestQueue.drop_of_none (q : TestQueue) (f : Entry → Bool) (h : ∀ e ∈ q.entries, f e = false) : q.drop f = q := by
  have : q.entries.filter (fun e => !(f e)) = q.entries := List.filter_eq_self.2 fun e he => by simp [h e he]
  unfold TestQueue.drop
  rw [this]

theorem TestQueue.setRun_running (q : TestQueue) (f : RunInfo → RunInfo) :
    (q.setRun f).running = q.running.map (fun e => { e with run := e.run.map f }) := by
  unfold TestQueue.running TestQueue.setRun
  rw [List.find?_map]
  congr 2
  funext e
  simp

/-! ### Tickets (R21) -/

theorem succTicket_range (t : Nat) : 1 ≤ succTicket t ∧ succTicket t ≤ Config.lastTicketValue := by
  unfold succTicket Config.lastTicketValue
  split <;> omega

theorem nextFreeTicket_range (held : List Nat) (n t : Nat) (h : 1 ≤ t ∧ t ≤ Config.lastTicketValue) :
    1 ≤ nextFreeTicket held n t ∧ nextFreeTicket held n t ≤ Config.lastTicketValue := by
  induction n generalizing t with
  | zero => exact h
  | succ n ih =>
    unfold nextFreeTicket
    split
    · exact ih _ (succTicket_range t)
    · exact h

/-- The ticket issued is a ticket value (R21). -/
theorem TestQueue.nextTicket_range (q : TestQueue) : 1 ≤ q.nextTicket ∧ q.nextTicket ≤ Config.lastTicketValue :=
  nextFreeTicket_range _ _ _ (succTicket_range _)

/-- The `i`-th ticket value from `t` on, wrapping from 65535 to 1. -/
def ticketAfter (t i : Nat) : Nat := (t - 1 + i) % Config.lastTicketValue + 1

theorem succTicket_eq_ticketAfter (t i : Nat) (h : 1 ≤ t ∧ t ≤ Config.lastTicketValue) :
    ticketAfter (succTicket t) i = ticketAfter t (i + 1) := by
  unfold ticketAfter succTicket Config.lastTicketValue at *
  split <;> omega

/-- The search ends on a held ticket only when every ticket it looked at is held. -/
theorem nextFreeTicket_held (held : List Nat) (n t : Nat) (h : 1 ≤ t ∧ t ≤ Config.lastTicketValue)
    (hn : nextFreeTicket held n t ∈ held) (i : Nat) (hi : i ≤ n) : ticketAfter t i ∈ held := by
  have h0 : ticketAfter t 0 = t := by
    unfold ticketAfter Config.lastTicketValue at *
    omega
  induction n generalizing t i with
  | zero =>
    obtain rfl : i = 0 := by omega
    rw [h0]
    exact hn
  | succ n ih =>
    unfold nextFreeTicket at hn
    split at hn
    · rename_i hc
      cases i with
      | zero => rw [h0]; exact List.contains_iff_mem.1 hc
      | succ i =>
        have hs := succTicket_range t
        rw [← succTicket_eq_ticketAfter t i h]
        refine ih _ hs hn i (by omega) ?_
        unfold ticketAfter Config.lastTicketValue at *
        omega
    · rename_i hc
      exact absurd (List.contains_iff_mem.2 hn) hc

/-- Among one ticket value more than there are held ones, one is free: the ticket issued is held by no entry (R21). -/
theorem TestQueue.nextTicket_fresh (q : TestQueue) (h : q.entries.length < Config.lastTicketValue) :
    q.nextTicket ∉ q.entries.map (fun e => e.ticket) := by
  intro hm
  have hall := nextFreeTicket_held _ _ _ (succTicket_range (q.lastTicket.getD 0)) hm
  have hnd : ((List.range (q.entries.length + 1)).map (ticketAfter (succTicket (q.lastTicket.getD 0)))).Nodup := by
    refine List.Nodup.map_on ?_ List.nodup_range
    intro i hi j hj hij
    simp only [List.mem_range] at hi hj
    unfold ticketAfter Config.lastTicketValue at *
    omega
  have hsub : (List.range (q.entries.length + 1)).map (ticketAfter (succTicket (q.lastTicket.getD 0))) ⊆
      q.entries.map (fun e => e.ticket) := by
    intro x hx
    obtain ⟨i, hi, rfl⟩ := List.mem_map.1 hx
    exact hall i (by simpa [Nat.lt_succ_iff] using hi)
  have hlen := (hnd.subperm hsub).length_le
  simp at hlen

end Sys2Proof.Machine
end

section
/-! SUPPORT. The small changes every command is made of (`Move`), and what each of them keeps: the queue's form, the
tenancy, the entries that wait, the fault table, the clock and the profiles. An invariant is proved of the small
changes once, and an operation is shown to be a chain of them once. -/

namespace Sys2Proof.Machine

/-! ### The invariants of the queue, on the queue alone -/

/-- The queue's form: `QueueInv` without its clause on the engine (R19, R21). -/
def TestQueue.Form (q : TestQueue) : Prop :=
  q.entries.length ≤ Config.queueCapacity ∧ (q.entries.map (fun e => e.ticket)).Nodup ∧
    (∀ e ∈ q.entries, 1 ≤ e.ticket ∧ e.ticket ≤ Config.lastTicketValue) ∧
    (∀ e ∈ q.entries, ∀ f ∈ q.entries, e.run.isSome = true → f.run.isSome = true → e = f)

/-- The entries that wait: `WaitingInv` without its clause on the latches (R23, R24). -/
def TestQueue.Waits (q : TestQueue) : Prop :=
  (∀ e ∈ q.entries, ∀ f ∈ q.entries, e.run = none → f.run = none → e.port = f.port →
    (e.kind = f.kind → e = f) ∧ ¬ (e.kind = .routine ∧ f.kind = .urgent)) ∧
    ∀ c, q.shareCount c ≤ Config.shareLimit

/-- The latches: each set one has an URGENT test of its port RUNNING, or the queue is full (R39). -/
def TestQueue.LatchesServed (q : TestQueue) : Prop :=
  ∀ p, q.latches.at p = true → q.urgentRunning p = true ∨ q.isFull = true

theorem queueInv_iff (s : State) :
    QueueInv s ↔ s.queue.Form ∧ (s.eng.state = .idle → s.queue.running = none) := by
  simp only [QueueInv, TestQueue.Form, TestQueue.running_eq_none, and_assoc]

theorem TestQueue.shareCount_eq_countP (q : TestQueue) (c : Client) :
    q.shareCount c = q.entries.countP (fun e => e.run.isNone && decide (e.client = c) && decide (e.origin = .request)) := by
  rw [List.countP_eq_length_filter, TestQueue.shareCount]
  congr 2
  funext e
  cases e.run <;> rfl

theorem waitingInv_iff (s : State) (h : s.queue.Form) :
    WaitingInv s ↔ s.queue.Waits ∧ s.queue.LatchesServed := by
  have hl : ∀ p, (s.queue.urgentRunning p = true ∨ s.queue.isFull = true) ↔
      ((∃ e ∈ s.queue.entries, e.run.isSome = true ∧ e.port = p ∧ e.kind = .urgent) ∨
        s.queue.entries.length = Config.queueCapacity) := by
    intro p
    rw [TestQueue.urgentRunning_iff, TestQueue.isFull_iff]
    exact or_congr_right ⟨fun hf => Nat.le_antisymm h.1 hf, fun he => he.ge⟩
  simp only [WaitingInv, TestQueue.Waits, TestQueue.LatchesServed, hl, TestQueue.shareCount_eq_countP,
    List.countP_eq_length_filter, and_assoc]

/-! ### The queue's form under each change -/

theorem TestQueue.Form.of_map {q r : TestQueue} (h : q.Form) (g : Entry → Entry)
    (hr : r.entries = q.entries.map g) (ht : ∀ e, (g e).ticket = e.ticket)
    (hrun : ∀ e ∈ q.entries, ∀ f ∈ q.entries, (g e).run.isSome = true → (g f).run.isSome = true → e = f) : r.Form := by
  obtain ⟨hlen, hnd, hrange, -⟩ := h
  refine ⟨by simpa [hr] using hlen, ?_, ?_, ?_⟩
  · simpa [hr, Function.comp_def, ht] using hnd
  · simp only [hr, List.forall_mem_map, ht]
    exact hrange
  · simp only [hr, List.forall_mem_map]
    intro e he f hf h1 h2
    rw [hrun e he f hf h1 h2]

theorem TestQueue.Form.setRun {q : TestQueue} (h : q.Form) (f : RunInfo → RunInfo) : (q.setRun f).Form :=
  h.of_map _ rfl (fun _ => rfl) fun e he x hx h1 h2 => h.2.2.2 e he x hx (by simpa using h1) (by simpa using h2)

theorem TestQueue.Form.upgrade {q : TestQueue} (h : q.Form) (p : PortNo) : (q.upgrade p).Form :=
  h.of_map _ (q.upgrade_entries p) (fun e => e.upgraded_ticket p) fun e he x hx h1 h2 =>
    h.2.2.2 e he x hx (by simpa using h1) (by simpa using h2)

/-- A start keeps the form when nothing is RUNNING: only the entry with the ticket runs (R33). -/
theorem TestQueue.Form.start {q r : TestQueue} (h : q.Form) (n : Nat) (plan : BandSet) (hn : q.running = none)
    (hr : r.entries = (q.start n plan).entries) : r.Form := by
  have hrun : ∀ e ∈ q.entries, (e.started n plan).run.isSome = true → e.ticket = n := by
    intro e he hs
    by_contra hne
    rw [Entry.started, if_neg hne, (q.running_eq_none).1 hn e he] at hs
    cases hs
  exact h.of_map _ (hr.trans (q.start_entries n plan)) (fun e => e.started_ticket n plan) fun e he x hx h1 h2 =>
    eq_of_nodup_map _ _ h.2.1 he hx ((hrun e he h1).trans (hrun x hx h2).symm)

theorem TestQueue.Form.drop {q : TestQueue} (h : q.Form) (f : Entry → Bool) : (q.drop f).Form := by
  obtain ⟨hlen, hnd, hrange, hrun⟩ := h
  have hsub : (q.drop f).entries.Sublist q.entries := List.filter_sublist
  refine ⟨hsub.length_le.trans hlen, (hsub.map _).nodup hnd, fun e he => hrange e (hsub.subset he), ?_⟩
  exact fun e he x hx => hrun e (hsub.subset he) x (hsub.subset hx)

theorem TestQueue.Form.addEntry {q : TestQueue} (h : q.Form) (c : Client) (p : PortNo) (k : Kind) (o : Origin)
    (room : q.entries.length < Config.queueCapacity) : (q.addEntry c p k o).Form := by
  obtain ⟨-, hnd, hrange, hrun⟩ := h
  have hfresh := q.nextTicket_fresh (room.trans (by decide))
  refine ⟨by simpa using room, ?_, ?_, ?_⟩
  · simp only [TestQueue.addEntry_entries, List.map_append, List.map_cons, List.map_nil]
    refine List.nodup_append.2 ⟨hnd, List.nodup_singleton _, fun a ha b hb hab => hfresh ?_⟩
    obtain rfl : a = q.nextTicket := hab.trans (List.mem_singleton.1 hb)
    exact ha
  · simp only [TestQueue.addEntry_entries, List.mem_append, List.mem_singleton]
    rintro e (he | rfl)
    · exact hrange e he
    · exact q.nextTicket_range
  · simp only [TestQueue.addEntry_entries, List.mem_append, List.mem_singleton]
    rintro e (he | rfl) f (hf | rfl) h1 h2
    · exact hrun e he f hf h1 h2
    · cases h2
    · cases h1
    · rfl

/-! ### The entries that wait under each change -/

/-- An entry of this client, port, kind and origin may be appended (R23, R24). -/
structure TestQueue.MayAdd (q : TestQueue) (c : Client) (p : PortNo) (k : Kind) (o : Origin) : Prop where
  same : q.findQueued p k = none
  urgent : k = .routine → q.findQueued p .urgent = none
  routine : k = .urgent → q.findQueued p .routine = none
  share : o = .request → q.shareCount c < Config.shareLimit

/-- Entries that keep their QUEUED ones, or lose some of them, keep the rules on them. -/
theorem TestQueue.Waits.of_map {q r : TestQueue} (h : q.Waits) (g : Entry → Entry) (hr : r.entries = q.entries.map g)
    (hg : ∀ e ∈ q.entries, (g e).run = none → g e = e) : r.Waits := by
  obtain ⟨hdup, hshare⟩ := h
  refine ⟨?_, fun c => le_trans ?_ (hshare c)⟩
  · simp only [hr, List.forall_mem_map]
    intro e he f hf h1 h2
    have he' := hg e he h1
    have hf' := hg f hf h2
    rw [he'] at h1 ⊢
    rw [hf'] at h2 ⊢
    exact hdup e he f hf h1 h2
  · rw [TestQueue.shareCount_eq_countP, TestQueue.shareCount_eq_countP, hr, List.countP_map]
    refine List.countP_mono_left fun e he hs => ?_
    have hn : (g e).run = none := by
      simp only [Function.comp_apply, Bool.and_eq_true, Option.isNone_iff_eq_none] at hs
      exact hs.1.1
    simpa only [Function.comp_apply, hg e he hn] using hs

theorem TestQueue.Waits.setRun {q : TestQueue} (h : q.Waits) (f : RunInfo → RunInfo) : (q.setRun f).Waits := by
  refine h.of_map _ rfl fun e _ hn => ?_
  have : e.run = none := by simpa using hn
  cases e
  simp_all

theorem TestQueue.Waits.start {q r : TestQueue} (h : q.Waits) (n : Nat) (plan : BandSet)
    (hr : r.entries = (q.start n plan).entries) : r.Waits :=
  h.of_map _ (hr.trans (q.start_entries n plan)) fun _ _ hn => Entry.started_of_run_eq_none hn

theorem TestQueue.Waits.drop {q : TestQueue} (h : q.Waits) (f : Entry → Bool) : (q.drop f).Waits := by
  have hsub : (q.drop f).entries.Sublist q.entries := List.filter_sublist
  refine ⟨fun e he x hx => h.1 e (hsub.subset he) x (hsub.subset hx), fun c => le_trans ?_ (h.2 c)⟩
  rw [TestQueue.shareCount_eq_countP, TestQueue.shareCount_eq_countP]
  exact hsub.countP_le

/-- An upgrade keeps the rules when no URGENT of the port is QUEUED (R23). -/
theorem TestQueue.Waits.upgrade {q : TestQueue} (h : q.Waits) (p : PortNo) (hu : q.findQueued p .urgent = none) :
    (q.upgrade p).Waits := by
  obtain ⟨hdup, hshare⟩ := h
  rw [TestQueue.findQueued_eq_none] at hu
  refine ⟨?_, fun c => le_of_eq_of_le ?_ (hshare c)⟩
  · simp only [TestQueue.upgrade_entries, List.forall_mem_map, Entry.upgraded_run, Entry.upgraded_port]
    intro e he f hf h1 h2 hp
    obtain ⟨hsame, hru⟩ := hdup e he f hf h1 h2 hp
    have hnu : ∀ x ∈ q.entries, x.run = none → x.port = p → x.kind ≠ .urgent := fun x hx a b c => hu x hx ⟨a, b, c⟩
    by_cases hpp : e.port = p
    · have hfp : f.port = p := hp ▸ hpp
      by_cases hek : e.kind = .routine <;> by_cases hfk : f.kind = .routine
      · have := hsame (hek.trans hfk.symm)
        subst this
        simp [Entry.upgraded, Entry.waitsAs_iff, h1, hpp, hek]
      · simp [Entry.upgraded, Entry.waitsAs_iff, h1, hpp, hek, hfp, h2, hfk, Ne.symm (hnu f hf h2 hfp)]
      · simp [Entry.upgraded, Entry.waitsAs_iff, h1, hpp, hek, hfp, h2, hfk, hnu e he h1 hpp]
      · simpa [Entry.upgraded, Entry.waitsAs_iff, hek, hfk] using hsame
    · have hfp : f.port ≠ p := hp ▸ hpp
      simpa [Entry.upgraded, Entry.waitsAs_iff, hpp, hfp] using And.intro hsame hru
  · rw [TestQueue.shareCount_eq_countP, TestQueue.shareCount_eq_countP, TestQueue.upgrade_entries, List.countP_map]
    congr 1
    funext e
    simp

theorem TestQueue.Waits.addEntry {q : TestQueue} (h : q.Waits) (c : Client) (p : PortNo) (k : Kind) (o : Origin)
    (may : q.MayAdd c p k o) : (q.addEntry c p k o).Waits := by
  obtain ⟨hdup, hshare⟩ := h
  obtain ⟨hsame, hurgent, hroutine, hroom⟩ := may
  simp only [TestQueue.findQueued_eq_none] at hsame hurgent hroutine
  refine ⟨?_, fun d => ?_⟩
  · simp only [TestQueue.addEntry_entries, List.mem_append, List.mem_singleton]
    rintro e (he | rfl) f (hf | rfl) h1 h2 hp
    · exact hdup e he f hf h1 h2 hp
    · exact ⟨fun hk => absurd ⟨h1, hp, hk⟩ (hsame e he), fun ⟨hr, hu⟩ => hroutine hu e he ⟨h1, hp, hr⟩⟩
    · exact ⟨fun hk => absurd ⟨h2, hp.symm, hk.symm⟩ (hsame f hf), fun ⟨hr, hu⟩ => hurgent hr f hf ⟨h2, hp.symm, hu⟩⟩
    · exact ⟨fun _ => rfl, fun ⟨hr, hu⟩ => by rw [hr] at hu; cases hu⟩
  · have hd := hshare d
    rw [TestQueue.shareCount_eq_countP] at hd ⊢
    rw [TestQueue.addEntry_entries, List.countP_append, List.countP_singleton]
    split
    · rename_i hs
      simp only [TestQueue.newEntry, Bool.and_eq_true] at hs
      obtain ⟨⟨-, hc⟩, ho⟩ := hs
      obtain rfl := of_decide_eq_true hc
      have := hroom (of_decide_eq_true ho)
      rw [TestQueue.shareCount_eq_countP] at this
      omega
    · omega

/-! ### The small changes -/

/-- One small change of the state. -/
inductive Move (s : State) : State → Prop where
  /-- The highway, the selector, the engine, the store, the hold unit or the waiting commands change; the engine comes
  to IDLE only from IDLE or with nothing RUNNING. -/
  | quiet (t : State) (queue : t.queue = s.queue) (ports : t.ports = s.ports) (faults : t.faults = s.faults)
      (office : t.office = s.office) (idle : t.eng.state = .idle → s.eng.state = .idle ∨ s.queue.running = none) : Move s t
  /-- The RUNNING entry's fields change. -/
  | setRun (f : RunInfo → RunInfo) : Move s (s.setQueue (s.queue.setRun f))
  /-- Entries leave, and parts outside the queue change with it; the engine comes to IDLE only from IDLE, with nothing
  RUNNING, or when the RUNNING entry leaves. -/
  | drop (t : State) (leaves : Entry → Bool) (queue : t.queue = s.queue.drop leaves) (ports : t.ports = s.ports)
      (faults : t.faults = s.faults) (office : t.office = s.office)
      (idle : t.eng.state = .idle →
        s.eng.state = .idle ∨ s.queue.running = none ∨ ∃ e, s.queue.running = some e ∧ leaves e = true) : Move s t
  /-- A latch is cleared, or set for a claimed port. -/
  | latch (p : PortNo) (v : Bool) (claimed : v = true → (s.port p).claimant.isSome = true) :
      Move s (s.setQueue (s.queue.setLatch p v))
  /-- A port's QUEUED ROUTINE becomes URGENT. -/
  | upgrade (p : PortNo) (none : s.queue.findQueued p .urgent = none) : Move s (s.setQueue (s.queue.upgrade p))
  /-- An entry of a port's claimant is appended. -/
  | add (c : Client) (p : PortNo) (k : Kind) (o : Origin) (claimed : (s.port p).claimant = some c)
      (room : s.queue.isFull = false) (may : s.queue.MayAdd c p k o) : Move s (s.setQueue (s.queue.addEntry c p k o))
  /-- An entry is appended in the place of others that leave. -/
  | replace (leaves : Entry → Bool) (c : Client) (p : PortNo) (k : Kind) (o : Origin)
      (claimed : (s.port p).claimant = some c) (room : ∃ e ∈ s.queue.entries, leaves e = true)
      (may : (s.queue.drop leaves).MayAdd c p k o) : Move s (s.setQueue ((s.queue.drop leaves).addEntry c p k o))
  /-- A test starts with the engine IDLE, which leaves IDLE. -/
  | start (n : Nat) (plan : BandSet) (pointer : Client) (eng : Engine) (idle : s.eng.state = .idle)
      (busy : eng.state ≠ .idle) : Move s ((s.setQueue { s.queue.start n plan with pointer := pointer }).setEng eng)
  /-- A port's record changes; a claim stays, and flags are set for the port of an entry alone. -/
  | record (p : PortNo) (r : PortRecord)
      (claim : (s.port p).claimant.isSome = true → r.claimant = (s.port p).claimant)
      (unread : r.unread = true → (s.port p).unread = true ∨ ∃ e ∈ s.queue.entries, e.port = p)
      (unseen : r.unseen = true → (s.port p).unseen = true ∨ ∃ e ∈ s.queue.entries, e.port = p)
      (profile : r.profile = (s.port p).profile ∨ r.profile.legal = true) : Move s (s.setPort p r)
  /-- A port that nothing belongs to becomes free. -/
  | free (p : PortNo) (entries : ∀ e ∈ s.queue.entries, e.port ≠ p) (faults : ∀ f ∈ s.faults, f.port ≠ p)
      (latch : s.queue.latches.at p = false) : Move s (s.setPort p PortRecord.free)
  /-- The fault table changes; a fault entry belongs to a port that had one, or to the port of an entry. -/
  | faults (x : List FaultEntry) (form : FaultsInv s → FaultsInv (s.setFaults x))
      (ports : ∀ f ∈ x, (∃ g ∈ s.faults, g.port = f.port) ∨ ∃ e ∈ s.queue.entries, e.port = f.port) :
      Move s (s.setFaults x)
  /-- The clock or a window changes. -/
  | office (x : Office) (form : OfficeInv s → OfficeInv (s.setOffice x)) : Move s (s.setOffice x)

/-- A chain of small changes. -/
def Moves : State → State → Prop := Relation.ReflTransGen Move

theorem Moves.refl (s : State) : Moves s s := Relation.ReflTransGen.refl

theorem Move.moves {s t : State} (h : Move s t) : Moves s t := Relation.ReflTransGen.single h

theorem Moves.trans {s t u : State} (h : Moves s t) (h' : Moves t u) : Moves s u := Relation.ReflTransGen.trans h h'

/-- What every small change keeps, a chain of them keeps. -/
theorem Moves.keeps {P : State → Prop} (hP : ∀ s t, Move s t → P s → P t) {s t : State} (h : Moves s t) (hs : P s) :
    P t := by
  induction h with
  | refl => exact hs
  | tail _ hm ih => exact hP _ _ hm ih

/-! ### What a small change keeps -/

theorem Move.queueForm {s t : State} (h : Move s t) (hs : QueueInv s) : t.queue.Form := by
  obtain ⟨hq, hi⟩ := (queueInv_iff s).1 hs
  cases h with
  | quiet _ queue => exact queue ▸ hq
  | setRun f => exact hq.setRun f
  | drop _ leaves queue => exact queue ▸ hq.drop leaves
  | upgrade p => exact hq.upgrade p
  | add c p k o _ room => exact hq.addEntry c p k o ((TestQueue.isFull_eq_false _).1 room)
  | replace leaves c p k o _ room =>
    exact (hq.drop leaves).addEntry c p k o ((s.queue.length_drop_lt leaves room).trans_le hq.1)
  | start n plan pointer eng idle => exact hq.start n plan (hi idle) rfl
  | latch | record | free | faults | office => exact hq

/-- When the one RUNNING entry leaves, nothing is RUNNING. -/
theorem TestQueue.Form.drop_running_leaves {q : TestQueue} (h : q.Form) {leaves : Entry → Bool} {e : Entry}
    (hr : q.running = some e) (hl : leaves e = true) : (q.drop leaves).running = none := by
  obtain ⟨he, hrun⟩ := TestQueue.running_eq_some hr
  rw [TestQueue.running_eq_none]
  intro x hx
  obtain ⟨hx, hnl⟩ := (q.mem_drop leaves x).1 hx
  by_contra hne
  have := h.2.2.2 e he x hx hrun (Option.isSome_iff_ne_none.2 hne)
  rw [← this, hl] at hnl
  cases hnl

/-- Every small change keeps the queue's form, and leaves nothing RUNNING with the engine IDLE (R19, R21, R35). -/
theorem Move.queueInv {s t : State} (h : Move s t) (hs : QueueInv s) : QueueInv t := by
  refine (queueInv_iff t).2 ⟨h.queueForm hs, fun ht => ?_⟩
  have hi := ((queueInv_iff s).1 hs).2
  have hnone : ∀ q : TestQueue, s.eng.state = .idle → (s.queue.running = none → q.running = none) → q.running = none :=
    fun _ h1 h2 => h2 (hi h1)
  cases h with
  | quiet _ queue _ _ _ idle => exact queue ▸ (idle ht).elim hi id
  | setRun f => exact hnone _ ht fun hn => by rw [State.setQueue_queue, TestQueue.setRun_running, hn]; rfl
  | drop _ leaves queue _ _ _ idle =>
    rw [queue]
    rcases idle ht with hidle | hn | ⟨e, hr, hl⟩
    · exact hnone _ hidle fun hn => s.queue.drop_running_none hn leaves
    · exact s.queue.drop_running_none hn leaves
    · exact ((queueInv_iff s).1 hs).1.drop_running_leaves hr hl
  | upgrade p => exact hnone _ ht fun hn => by rw [State.setQueue_queue, TestQueue.upgrade_running, hn]
  | add c p k o => exact hnone _ ht fun hn => by rw [State.setQueue_queue, TestQueue.addEntry_running, hn]
  | replace leaves c p k o =>
    refine hnone _ ht fun hn => ?_
    rw [State.setQueue_queue, TestQueue.addEntry_running, s.queue.drop_running_none hn leaves]
  | start n plan pointer eng idle busy => exact absurd ht busy
  | latch | record | free | faults | office => exact hi ht

/-- Every small change keeps the rules on the entries that wait (R23, R24). -/
theorem Move.waits {s t : State} (h : Move s t) (hs : s.queue.Waits) : t.queue.Waits := by
  cases h with
  | quiet _ queue => exact queue ▸ hs
  | setRun f => exact hs.setRun f
  | drop _ leaves queue => exact queue ▸ hs.drop leaves
  | upgrade p none => exact hs.upgrade p none
  | add c p k o _ _ may => exact hs.addEntry c p k o may
  | replace leaves c p k o _ _ may => exact (hs.drop leaves).addEntry c p k o may
  | start n plan => exact hs.start n plan rfl
  | latch | record | free | faults | office => exact hs

/-- Another queue whose entries are those of ports and clients that had one keeps the tenancy, as long as a set latch
is one of a claimed port (R2). -/
theorem TenancyInv.setQueue {s : State} (h : TenancyInv s) (q : TestQueue)
    (he : ∀ e ∈ q.entries, ∃ f ∈ s.queue.entries, f.port = e.port ∧ f.client = e.client)
    (hl : ∀ p, q.latches.at p = true → s.queue.latches.at p = true ∨ (s.port p).claimant.isSome = true) :
    TenancyInv (s.setQueue q) := by
  obtain ⟨hent, hf, hflag⟩ := h
  refine ⟨fun e hm => ?_, hf, fun p hp => ?_⟩
  · obtain ⟨f, hm', hp, hc⟩ := he e hm
    have := hent f hm'
    rwa [hp, hc] at this
  · rcases hp with hp | hp | hp
    · exact hflag p (.inl hp)
    · exact hflag p (.inr (.inl hp))
    · exact (hl p hp).elim (fun h => hflag p (.inr (.inr h))) id

theorem TenancyInv.addEntry {s : State} (h : TenancyInv s) (c : Client) (p : PortNo) (k : Kind) (o : Origin)
    (hc : (s.port p).claimant = some c) : TenancyInv (s.setQueue (s.queue.addEntry c p k o)) := by
  obtain ⟨hent, hf, hflag⟩ := h
  refine ⟨?_, hf, hflag⟩
  simp only [State.setQueue_queue, TestQueue.addEntry_entries, List.mem_append, List.mem_singleton]
  rintro e (he | rfl)
  · exact hent e he
  · exact hc

theorem TenancyInv.drop {s : State} (h : TenancyInv s) (leaves : Entry → Bool) :
    TenancyInv (s.setQueue (s.queue.drop leaves)) :=
  h.setQueue _ (fun e he => ⟨e, ((s.queue.mem_drop leaves e).1 he).1, rfl, rfl⟩) fun _ hp => .inl hp

/-- A record that keeps a claim, and sets flags for the port of an entry alone, keeps the tenancy (R2, R4). -/
theorem TenancyInv.setPort {s : State} (h : TenancyInv s) (p : PortNo) (r : PortRecord)
    (claim : (s.port p).claimant.isSome = true → r.claimant = (s.port p).claimant)
    (unread : r.unread = true → (s.port p).unread = true ∨ ∃ e ∈ s.queue.entries, e.port = p)
    (unseen : r.unseen = true → (s.port p).unseen = true ∨ ∃ e ∈ s.queue.entries, e.port = p) :
    TenancyInv (s.setPort p r) := by
  obtain ⟨hent, hf, hflag⟩ := h
  have hclaim : ∀ q, (s.port q).claimant.isSome = true → ((s.setPort p r).port q).claimant = (s.port q).claimant := by
    intro q hq
    rw [State.setPort_port]
    split
    · subst_vars
      exact claim hq
    · rfl
  have hentry : ∀ e ∈ s.queue.entries, (s.port e.port).claimant.isSome = true := fun e he => by simp [hent e he]
  have hsome : ∀ q, (s.port q).claimant.isSome = true → ((s.setPort p r).port q).claimant.isSome = true :=
    fun q hq => (hclaim q hq).symm ▸ hq
  refine ⟨fun e he => (hclaim _ (hentry e he)).trans (hent e he), fun f hm => hsome _ (hf f hm), fun q hq => hsome q ?_⟩
  rw [State.setPort_port] at hq
  split at hq
  · rename_i hpq
    subst hpq
    rcases hq with hq | hq | hq
    · exact (unread hq).elim (fun hu => hflag p (.inl hu)) fun ⟨e, he, hp⟩ => hp ▸ hentry e he
    · exact (unseen hq).elim (fun hu => hflag p (.inr (.inl hu))) fun ⟨e, he, hp⟩ => hp ▸ hentry e he
    · exact hflag p (.inr (.inr hq))
  · exact hflag q hq

/-- A port that nothing belongs to may become free (R5). -/
theorem TenancyInv.free {s : State} (h : TenancyInv s) (p : PortNo) (entries : ∀ e ∈ s.queue.entries, e.port ≠ p)
    (faults : ∀ f ∈ s.faults, f.port ≠ p) (latch : s.queue.latches.at p = false) :
    TenancyInv (s.setPort p PortRecord.free) := by
  obtain ⟨hent, hf, hflag⟩ := h
  have hport : ∀ q, q ≠ p → (s.setPort p PortRecord.free).port q = s.port q := fun q hq => by
    rw [State.setPort_port, if_neg (Ne.symm hq)]
  refine ⟨fun e he => ?_, fun f hm => ?_, fun q hq => ?_⟩
  · rw [hport _ (entries e he)]; exact hent e he
  · rw [hport _ (faults f hm)]; exact hf f hm
  · by_cases hqp : q = p
    · subst hqp
      simp [PortRecord.free, latch] at hq
    · rw [hport q hqp] at hq ⊢
      exact hflag q hq

/-- Every small change keeps the tenancy (R2). -/
theorem Move.tenancyInv {s t : State} (h : Move s t) (hs : TenancyInv s) : TenancyInv t := by
  cases h with
  | quiet _ queue ports faults => simpa only [TenancyInv, State.port, queue, ports, faults] using hs
  | setRun f =>
    refine hs.setQueue _ (fun e he => ?_) fun _ hp => .inl hp
    obtain ⟨x, hx, rfl⟩ := (s.queue.mem_setRun f e).1 he
    exact ⟨x, hx, rfl, rfl⟩
  | drop _ leaves queue ports faults =>
    have hd := hs.drop leaves
    simpa only [TenancyInv, State.port, State.setQueue_queue, State.setQueue_ports, State.setQueue_faults, queue,
      ports, faults] using hd
  | latch p v claimed =>
    refine hs.setQueue _ (fun e he => ⟨e, he, rfl, rfl⟩) fun q hq => ?_
    rw [TestQueue.setLatch_at] at hq
    split at hq
    · exact .inr (‹p = q› ▸ claimed hq)
    · exact .inl hq
  | upgrade p =>
    refine hs.setQueue _ (fun e he => ?_) fun _ hp => .inl hp
    obtain ⟨x, hx, rfl⟩ := List.mem_map.1 he
    exact ⟨x, hx, (x.upgraded_port p).symm, (x.upgraded_client p).symm⟩
  | add c p k o claimed => exact hs.addEntry c p k o claimed
  | replace leaves c p k o claimed => exact (hs.drop leaves).addEntry c p k o claimed
  | start n plan pointer eng =>
    refine hs.setQueue _ (fun e he => ?_) fun _ hp => .inl hp
    obtain ⟨x, hx, rfl⟩ := List.mem_map.1 he
    exact ⟨x, hx, (x.started_port n plan).symm, (x.started_client n plan).symm⟩
  | record p r claim unread unseen => exact hs.setPort p r claim unread unseen
  | free p entries faults latch => exact hs.free p entries faults latch
  | faults x _ ports =>
    obtain ⟨hent, hf, hflag⟩ := hs
    refine ⟨hent, fun f hm => ?_, hflag⟩
    rcases ports f hm with ⟨g, hg, hp⟩ | ⟨e, he, hp⟩
    · exact hp ▸ hf g hg
    · have := hent e he
      simp [← hp, this]
  | office => exact hs

/-- Every small change keeps the fault table's form (R126, R127, R133). -/
theorem Move.faultsInv {s t : State} (h : Move s t) (hs : FaultsInv s) : FaultsInv t := by
  cases h with
  | quiet _ _ _ faults | drop _ _ _ _ faults => simpa only [FaultsInv, faults] using hs
  | faults x form => exact form hs
  | setRun | latch | upgrade | add | replace | start | record | free | office => exact hs

/-- Every small change keeps the clock and the windows in their ranges (R43, R46). -/
theorem Move.officeInv {s t : State} (h : Move s t) (hs : OfficeInv s) : OfficeInv t := by
  cases h with
  | quiet _ _ _ _ office | drop _ _ _ _ _ office => simpa only [OfficeInv, office] using hs
  | office x form => exact form hs
  | setRun | latch | upgrade | add | replace | start | record | free | faults => exact hs

theorem Profile.default_legal : Profile.default.legal = true := by decide

theorem ProfilesInv.setPort {s : State} (h : ProfilesInv s) (p : PortNo) (r : PortRecord) (hr : r.profile.legal = true) :
    ProfilesInv (s.setPort p r) := by
  intro q
  rw [State.setPort_port]
  split
  · exact hr
  · exact h q

/-- Every small change keeps the profiles legal (R9). -/
theorem Move.profilesInv {s t : State} (h : Move s t) (hs : ProfilesInv s) : ProfilesInv t := by
  cases h with
  | quiet _ _ ports | drop _ _ _ ports => simpa only [ProfilesInv, State.port, ports] using hs
  | record p r _ _ _ profile => exact hs.setPort p r (profile.elim (fun h => h ▸ hs p) id)
  | free p => exact hs.setPort p _ Profile.default_legal
  | setRun | latch | upgrade | add | replace | start | faults | office => exact hs

end Sys2Proof.Machine
end

section
/-! SUPPORT. The shared operations as chains of small changes: first the operations on a test in hand (`TestMove`),
then the departure of entries, the end of a test, the arbiter and the requests. -/

namespace Sys2Proof.Machine

/-! ### The operations on the test in hand -/

/-- One change of the test in hand: parts outside the queue, the RUNNING entry's fields, or the end of the test. -/
inductive TestMove (s : State) : State → Prop where
  /-- As the small change of that name. -/
  | quiet (t : State) (queue : t.queue = s.queue) (ports : t.ports = s.ports) (faults : t.faults = s.faults)
      (office : t.office = s.office) (idle : t.eng.state = .idle → s.eng.state = .idle ∨ s.queue.running = none) :
      TestMove s t
  /-- The RUNNING entry's fields change. -/
  | setRun (f : RunInfo → RunInfo) : TestMove s (s.setQueue (s.queue.setRun f))
  /-- The test ends (R35). -/
  | endTest (status : Status) (cause : Option Cause) (r : Report) (full : Bool) :
      TestMove s (s.endTest status cause r full)

/-- A chain of changes of the test in hand. -/
def TestMoves : State → State → Prop := Relation.ReflTransGen TestMove

theorem TestMoves.refl (s : State) : TestMoves s s := Relation.ReflTransGen.refl

theorem TestMove.testMoves {s t : State} (h : TestMove s t) : TestMoves s t := Relation.ReflTransGen.single h

theorem TestMoves.trans {s t u : State} (h : TestMoves s t) (h' : TestMoves t u) : TestMoves s u :=
  Relation.ReflTransGen.trans h h'

/-- What every change of the test in hand keeps, a chain of them keeps. -/
theorem TestMoves.keeps {P : State → Prop} (hP : ∀ s t, TestMove s t → P s → P t) {s t : State} (h : TestMoves s t)
    (hs : P s) : P t := by
  induction h with
  | refl => exact hs
  | tail _ hm ih => exact hP _ _ hm ih

theorem TestMoves.quiet {s t : State} (queue : t.queue = s.queue) (ports : t.ports = s.ports)
    (faults : t.faults = s.faults) (office : t.office = s.office)
    (idle : t.eng.state = .idle → s.eng.state = .idle ∨ s.queue.running = none) : TestMoves s t :=
  (TestMove.quiet t queue ports faults office idle).testMoves

/-- The engine is replaced by one that is IDLE only if it was. -/
theorem TestMoves.eng (s : State) (x : Engine) (h : x.state = .idle → s.eng.state = .idle) :
    TestMoves s (s.setEng x) := .quiet rfl rfl rfl rfl fun hi => .inl (h hi)

theorem TestMoves.sel (s : State) (x : Selector) : TestMoves s (s.setSel x) :=
  .quiet rfl rfl rfl rfl .inl

theorem TestMoves.hold (s : State) (x : HoldUnit) : TestMoves s (s.setHold x) :=
  .quiet rfl rfl rfl rfl .inl

theorem State.clearMark_testMoves (s : State) : TestMoves s s.clearMark := .hold ..

theorem State.markRestart_testMoves (s : State) : TestMoves s s.markRestart := by
  unfold State.markRestart
  split
  · exact .hold ..
  · exact .refl s

theorem State.enterHeld_testMoves (s : State) : TestMoves s s.enterHeld :=
  .quiet rfl rfl rfl rfl nofun

theorem State.beginBand_testMoves (s : State) (b : Band) : TestMoves s (s.beginBand b) := .eng _ _ nofun

theorem State.beginLaserBlock_testMoves (s : State) : TestMoves s s.beginLaserBlock := .eng _ _ nofun

theorem State.setRun_testMoves (s : State) (f : RunInfo → RunInfo) : TestMoves s (s.setQueue (s.queue.setRun f)) :=
  (TestMove.setRun f).testMoves

theorem State.cancelTest_testMoves (s : State) : TestMoves s s.cancelTest := (TestMove.endTest ..).testMoves

theorem State.abort_testMoves (s : State) (c : Cause) : TestMoves s (s.abort c) := by
  unfold State.abort
  (repeat' split) <;> exact (TestMove.endTest ..).testMoves

theorem State.park_testMoves (s : State) (x : ResumePoint) : TestMoves s (s.park x) :=
  (TestMoves.eng s { s.eng with resume := some x } id).trans
    ((State.setRun_testMoves ..).trans (State.enterHeld_testMoves _))

theorem State.goOn_testMoves (s : State) (ri : RunInfo) : TestMoves s (s.goOn ri) := by
  unfold State.goOn
  dsimp only
  have h : TestMoves s (((s.setQueue (s.queue.setRun (fun x => { x with suspended := false }))).setEng
      { s.eng with resume := none }).clearMark) :=
    (s.setRun_testMoves _).trans (.trans (.eng _ { s.eng with resume := none } id) (State.clearMark_testMoves _))
  split
  · split
    · exact h.trans (State.beginBand_testMoves ..)
    · exact h.trans (State.beginLaserBlock_testMoves _)
  · split
    · exact h.trans (State.beginBand_testMoves ..)
    · exact h.trans (State.beginLaserBlock_testMoves _)
  · exact h.trans (State.beginBand_testMoves ..)

theorem State.arrive_testMoves (s : State) : TestMoves s s.arrive := by
  have h : TestMoves s s.clearMark.cancelTest := s.clearMark_testMoves.trans (State.cancelTest_testMoves _)
  unfold State.arrive
  split
  · split
    · exact h
    · split
      · exact State.goOn_testMoves ..
      · exact State.park_testMoves ..
  · exact h

theorem State.heed_testMoves (s : State) (x : SelReport) : TestMoves s (s.heed x) := by
  cases x <;> unfold State.heed
  case quiet => exact .refl s
  case rotation => exact s.markRestart_testMoves
  case arrival =>
    dsimp only
    split
    · exact s.arrive_testMoves
    · exact .refl s
  case failure =>
    dsimp only
    split
    · exact s.clearMark_testMoves.trans (State.abort_testMoves ..)
    · exact .refl s
  case disturbed =>
    dsimp only
    split
    · exact s.abort_testMoves _
    · exact .refl s
  case lostSettled =>
    dsimp only
    split
    · exact s.abort_testMoves _
    · exact s.markRestart_testMoves

theorem State.selEvent_testMoves (s : State) (x : Selector × SelReport) : TestMoves s (s.selEvent x) :=
  (TestMoves.sel s x.1).trans (State.heed_testMoves ..)

theorem State.requestPosition_testMoves (s : State) (p : PortNo) : TestMoves s (s.requestPosition p) :=
  s.selEvent_testMoves _

theorem State.joinHold_testMoves (s : State) (c : Client) : TestMoves s (s.joinHold c) := by
  unfold State.joinHold
  dsimp only
  split
  · exact .refl s
  · refine .trans (TestMoves.hold s { s.hold with members := s.hold.members.put c true }) ?_
    split
    · split
      · exact State.enterHeld_testMoves _
      · exact .eng _ _ nofun
      · exact .eng _ _ nofun
      · exact .refl _
    · exact .refl _

theorem State.releaseHold_testMoves (s : State) : TestMoves s s.releaseHold := by
  unfold State.releaseHold
  split
  · split <;> exact .eng _ _ nofun
  · dsimp only
    split
    · rename_i hn
      exact .quiet rfl rfl rfl rfl fun _ => .inr hn
    · refine TestMoves.trans ?_ (State.requestPosition_testMoves ..)
      exact .quiet rfl rfl rfl rfl nofun
  · exact .refl s

theorem State.leaveHold_testMoves (s : State) (c : Client) : TestMoves s (s.leaveHold c) := by
  unfold State.leaveHold
  dsimp only
  split
  · refine .trans (TestMoves.hold s { s.hold with members := s.hold.members.put c false }) ?_
    split
    · exact State.releaseHold_testMoves _
    · exact .refl _
  · exact .refl s

/-! ### Block boundaries -/

theorem State.enterAnalyse_testMoves (s : State) (sn : Snapshot) (e : Entry) (done : BandSet) :
    TestMoves s (s.enterAnalyse sn e done) := .eng _ _ nofun

theorem State.completeBand_testMoves (s : State) (sn : Snapshot) (b : Band) (e : Entry) (ri : RunInfo) :
    TestMoves s (s.completeBand sn b e ri) := by
  unfold State.completeBand
  dsimp only
  refine ((s.setRun_testMoves (fun x => { x with done := x.done.insert b })).trans (TestMoves.eng _ { s.eng with
    traces := s.eng.traces.put b (some (convertBand sn ((s.eng.darks.at b).getD 0) s.eng.accs s.eng.clips)) } id)).trans ?_
  cases b with
  | A => exact State.enterAnalyse_testMoves ..
  | B =>
    dsimp only
    split
    · split
      · exact State.beginBand_testMoves ..
      · exact (State.setRun_testMoves ..).trans (State.enterAnalyse_testMoves ..)
    · exact State.enterAnalyse_testMoves ..

theorem State.darkBoundary_testMoves (s : State) (sn : Snapshot) (b : Band) : TestMoves s (s.darkBoundary sn b) := by
  unfold State.darkBoundary
  dsimp only
  refine (TestMoves.eng s { s.eng with
    darks := s.eng.darks.put b (some (s.eng.darkTotal / (Config.shotsPerBlock * sn.points))), darkTotal := 0 } id).trans ?_
  split
  · split
    · exact State.cancelTest_testMoves _
    · split
      · exact State.park_testMoves ..
      · exact State.beginLaserBlock_testMoves _
  · exact State.cancelTest_testMoves _

theorem State.laserBoundary_testMoves (s : State) (sn : Snapshot) (b : Band) : TestMoves s (s.laserBoundary sn b) := by
  unfold State.laserBoundary
  dsimp only
  refine (TestMoves.eng s { s.eng with
    accs := addSums s.eng.accs s.eng.sums, sums := [], blocksDone := s.eng.blocksDone + 1 } id).trans ?_
  split
  · split
    · split
      · split
        · exact (State.setRun_testMoves ..).trans (State.cancelTest_testMoves _)
        · exact State.cancelTest_testMoves _
      · split
        · exact State.completeBand_testMoves ..
        · exact State.beginLaserBlock_testMoves _
    · exact State.cancelTest_testMoves _
  · exact State.cancelTest_testMoves _

theorem State.drainedBoundary_testMoves (s : State) : TestMoves s s.drainedBoundary := by
  unfold State.drainedBoundary
  dsimp only
  refine (TestMoves.eng s { s.eng with sums := [] } id).trans ?_
  split
  · split
    · exact State.cancelTest_testMoves _
    · exact State.park_testMoves ..
  · exact State.cancelTest_testMoves _

theorem State.boundary_testMoves (s : State) (sn : Snapshot) (b : Band) : TestMoves s (s.boundary sn b) := by
  unfold State.boundary
  split
  · exact s.darkBoundary_testMoves sn b
  · split
    · exact s.drainedBoundary_testMoves
    · exact s.laserBoundary_testMoves sn b

/-! ### The latch drain and the departure of entries (R40) -/

@[simp] theorem State.drainPort_running (s : State) (p : PortNo) : (s.drainPort p).queue.running = s.queue.running := by
  unfold State.drainPort
  (repeat' split) <;> simp

@[simp] theorem State.drain_running (s : State) : s.drain.queue.running = s.queue.running := by
  have h : ∀ (l : List PortNo) (t : State), (l.foldl State.drainPort t).queue.running = t.queue.running := by
    intro l
    induction l with
    | nil => exact fun _ => rfl
    | cons p l ih => exact fun t => (ih _).trans (t.drainPort_running p)
  exact h portList s

theorem State.drainPort_moves (s : State) (p : PortNo) : Moves s (s.drainPort p) := by
  unfold State.drainPort
  split
  · exact .refl s
  rename_i hwork
  split
  · exact (Move.latch p false nofun).moves
  rename_i hu
  have hu : s.queue.findQueued p .urgent = none := by simpa using hu
  split
  · exact (Move.upgrade p hu).moves.trans (Move.latch p false nofun).moves
  rename_i hr
  have hr : s.queue.findQueued p .routine = none := by simpa using hr
  split
  · rename_i c hc
    refine (Move.add c p .urgent .los hc ?_ ⟨hu, nofun, fun _ => hr, nofun⟩).moves.trans
      (Move.latch p false nofun).moves
    simp_all
  · exact .refl s

theorem State.drain_moves (s : State) : Moves s s.drain := by
  have h : ∀ (l : List PortNo) (t : State), Moves t (l.foldl State.drainPort t) := by
    intro l
    induction l with
    | nil => exact .refl
    | cons p l ih => exact fun t => (t.drainPort_moves p).trans (ih _)
  exact h portList s

theorem State.drop_moves (s : State) (leaves : Entry → Bool) : Moves s (s.setQueue (s.queue.drop leaves)) :=
  Move.moves (Move.drop _ leaves rfl rfl rfl rfl .inl)

theorem State.depart_moves (s : State) (leaves : Entry → Bool) : Moves s (s.depart leaves) := by
  unfold State.depart
  split
  · exact (s.drop_moves leaves).trans (State.drain_moves _)
  · exact .refl s

/-! ### The end of a test (R35) -/

/-- A result is written to the port of an entry (R15). -/
theorem State.writeResult_moves (s : State) (p : PortNo) (r : ResultRecord) (h : ∃ e ∈ s.queue.entries, e.port = p) :
    Moves s (s.writeResult p r) :=
  (Move.record p { s.port p with result := some r, unread := true } (fun _ => rfl) (fun _ => .inr h) .inl
    (.inl rfl)).moves

theorem State.leaveTest_moves (s : State) (h : s.queue.running = none) : Moves s s.leaveTest :=
  (Move.quiet s.leaveTest (by simp) (by simp) (by simp) (by simp) fun _ => .inr h).moves

theorem State.discardWork_moves (s : State) : Moves s s.discardWork := 
  (Move.quiet (s := s) s.discardWork rfl rfl rfl rfl .inl).moves

/-- The RUNNING entry `e` gone with its result `x` written, and a CONFIRM of its port appended if `asks` holds and the
port has none QUEUED (R35 steps 1 to 3). -/
def State.testGone (s : State) (e : Entry) (x : ResultRecord) (asks : Prop) [Decidable asks] : State :=
  let left := (s.writeResult e.port x).setQueue (s.queue.drop (fun y => y.run.isSome))
  if asks then left.admitConfirm e.port else left

/-- The end of a test that has an entry (R35). -/
theorem State.endTest_of_running (s : State) {e : Entry} {ri : RunInfo} (h : s.queue.running = some e)
    (hr : e.run = some ri) (status : Status) (cause : Option Cause) (r : Report) (full : Bool) :
    s.endTest status cause r full =
      (s.testGone e (runningResult s.eng e ri status cause r full s.office.clock)
        (status = .done ∧ r.asksConfirm = true)).drain.discardWork.leaveTest := by
  unfold State.endTest State.testGone
  simp only [h, hr]
  rfl

/-- The end of a detached test (R35 step 5). -/
theorem State.endTest_of_none (s : State) (h : s.queue.running = none) (status : Status) (cause : Option Cause)
    (r : Report) (full : Bool) : s.endTest status cause r full = s.discardWork.leaveTest := by
  unfold State.endTest
  simp only [h]

theorem State.testGone_moves (s : State) {e : Entry} (h : s.queue.running = some e) (x : ResultRecord) (asks : Prop)
    [Decidable asks] : Moves s (s.testGone e x asks) := by
  obtain ⟨he, hr⟩ := TestQueue.running_eq_some h
  have hw := s.writeResult_moves e.port x ⟨e, he, rfl⟩
  have hdrop := hw.trans (State.drop_moves _ (fun y => y.run.isSome))
  unfold State.testGone State.admitConfirm
  dsimp only
  split
  · split
    · exact hdrop
    · rename_i c hc
      split
      · exact hdrop
      · rename_i hq
        exact hw.trans (Move.moves (Move.replace (s := s.writeResult e.port x) _ c e.port .confirm .analysis hc
          ⟨e, he, hr⟩ ⟨by simpa using hq, nofun, nofun, nofun⟩))
  · exact hdrop

theorem State.testGone_running (s : State) (e : Entry) (x : ResultRecord) (asks : Prop) [Decidable asks] :
    (s.testGone e x asks).queue.running = none := by
  have hd := s.queue.drop_running_run
  unfold State.testGone State.admitConfirm
  dsimp only
  (repeat' split) <;> simpa using hd

/-- The end of a test is a chain of small changes (R35). -/
theorem State.endTest_moves (s : State) (status : Status) (cause : Option Cause) (r : Report) (full : Bool) :
    Moves s (s.endTest status cause r full) := by
  cases h : s.queue.running with
  | none =>
    rw [s.endTest_of_none h]
    exact s.discardWork_moves.trans (State.leaveTest_moves _ h)
  | some e =>
    obtain ⟨ri, hri⟩ := Option.isSome_iff_exists.1 (TestQueue.running_eq_some h).2
    rw [s.endTest_of_running h hri]
    refine (s.testGone_moves h _ _).trans ((State.drain_moves _).trans ((State.discardWork_moves _).trans
      (State.leaveTest_moves _ ?_)))
    rw [State.discardWork_queue, State.drain_running]
    exact s.testGone_running ..

theorem TestMove.moves {s t : State} (h : TestMove s t) : Moves s t := by
  cases h with
  | quiet _ queue ports faults office idle => exact (Move.quiet _ queue ports faults office idle).moves
  | setRun f => exact (Move.setRun f).moves
  | endTest status cause r full => exact s.endTest_moves status cause r full

theorem TestMoves.moves {s t : State} (h : TestMoves s t) : Moves s t :=
  h.keeps (P := Moves s) (fun _ _ hm hs => hs.trans hm.moves) (.refl s)

/-! ### The arbiter (R30 to R33) -/

/-- What the start of a test does before its position request (R33). -/
def State.prepared (s : State) (e : Entry) (pointer : Client) : State :=
  (((s.setQueue { s.queue.start e.ticket (s.resolve e.port e.kind) with pointer := pointer }).setEng
    { s.eng.discard with
      state := .position, hand := .entry e.ticket, snap := some (s.port e.port).profile.snapshot }).setStore
    (if e.kind.isBaseline then s.store.reserve else s.store))

theorem State.startTest_eq (s : State) (e : Entry) (pointer : Client) :
    s.startTest e pointer = (s.prepared e pointer).requestPosition e.port := rfl

theorem State.prepared_moves (s : State) (e : Entry) (pointer : Client) (h : s.eng.state = .idle) :
    Moves s (s.prepared e pointer) :=
  .trans (Move.moves (Move.start e.ticket (s.resolve e.port e.kind) pointer { s.eng.discard with
      state := .position, hand := .entry e.ticket, snap := some (s.port e.port).profile.snapshot } h nofun))
    (Move.moves (Move.quiet _ rfl rfl rfl rfl .inl))

theorem State.mayChoose_iff (s : State) :
    s.mayChoose = true ↔ s.eng.state = .idle ∧ s.hold.isEmpty = true ∧ s.sel.state ≠ .fault := by
  simp [State.mayChoose, and_assoc]

end Sys2Proof.Machine
end

section
/-! SUPPORT. The fault table's form under the operations on it (8.2 to 8.6), and under the fold of a test. -/

namespace Sys2Proof.Machine

/-- The fault table's form: `FaultsInv` on the table alone (R126, R127, R133). -/
def FaultForm (table : List FaultEntry) : Prop :=
  table.length ≤ Config.faultCapacity ∧ (table.map (fun e => e.id)).Nodup ∧
    (∀ e ∈ table, e.id < Config.faultCapacity) ∧
    (∀ e ∈ table, e.misses ≤ 3 ∧ (e.state ≠ .cleared → e.misses < missLimit e.det.kind))

theorem missLimit_range (k : FaultKind) : 1 ≤ missLimit k ∧ missLimit k ≤ 3 := by
  cases k <;> decide

/-- Entries changed in place, each with its id kept and its misses in range, keep the form. -/
theorem FaultForm.of_map {table : List FaultEntry} (h : FaultForm table) (g : FaultEntry → FaultEntry)
    (hid : ∀ e ∈ table, (g e).id = e.id)
    (hm : ∀ e ∈ table, (g e).misses ≤ 3 ∧ ((g e).state ≠ .cleared → (g e).misses < missLimit (g e).det.kind)) :
    FaultForm (table.map g) := by
  obtain ⟨hlen, hnd, hlow, -⟩ := h
  refine ⟨by simpa using hlen, ?_, ?_, ?_⟩
  · have hids : table.map ((fun e => e.id) ∘ g) = table.map (fun e => e.id) := List.map_congr_left hid
    rwa [List.map_map, hids]
  · rw [List.forall_mem_map]
    exact fun e he => (hid e he).symm ▸ hlow e he
  · rw [List.forall_mem_map]
    exact hm

/-- A shorter table keeps the form. -/
theorem FaultForm.sublist {table u : List FaultEntry} (h : FaultForm table) (hs : u.Sublist table) : FaultForm u := by
  obtain ⟨hlen, hnd, hlow, hm⟩ := h
  exact ⟨hs.length_le.trans hlen, (hs.map _).nodup hnd, fun e he => hlow e (hs.subset he), fun e he => hm e (hs.subset he)⟩

/-- An entry replaced in place by one with its misses in range keeps the form (R128). -/
theorem FaultForm.replaceEntry {table : List FaultEntry} (h : FaultForm table) (e : FaultEntry)
    (hm : e.misses ≤ 3 ∧ (e.state ≠ .cleared → e.misses < missLimit e.det.kind)) :
    FaultForm (replaceEntry table e) := by
  refine h.of_map _ (fun x _ => ?_) fun x hx => ?_
  · split
    · rename_i he; exact he.symm
    · rfl
  · split
    · exact hm
    · exact h.2.2.2 x hx

theorem removeEntry_sublist (table : List FaultEntry) (id : Nat) : (removeEntry table id).Sublist table :=
  List.filter_sublist

theorem mem_replaceEntry {table : List FaultEntry} {e f : FaultEntry} (h : f ∈ replaceEntry table e) :
    f = e ∨ f ∈ table := by
  obtain ⟨x, hx, rfl⟩ := List.mem_map.1 h
  split
  · exact .inl rfl
  · exact .inr hx

/-- Room made for an entry is a part of the table, with a place free (R132). -/
theorem makeRoom_spec {table u : List FaultEntry} (h : makeRoom table = some u) :
    u.Sublist table ∧ (table.length ≤ Config.faultCapacity → u.length < Config.faultCapacity) := by
  unfold makeRoom at h
  split at h
  · rename_i hlt
    cases h
    exact ⟨List.Sublist.refl _, fun _ => hlt⟩
  · obtain ⟨e, he, rfl⟩ := Option.map_eq_some_iff.1 h
    refine ⟨removeEntry_sublist table e.id, fun hle => lt_of_lt_of_le ?_ hle⟩
    exact List.length_filter_lt_length_iff_exists.2 ⟨e, List.mem_of_find?_eq_some he, by simp⟩

/-- The id given is one no entry holds, below the capacity (R128). -/
theorem freeId_spec {table : List FaultEntry} {id : Nat} (h : freeId table = some id) :
    id < Config.faultCapacity ∧ ∀ e ∈ table, e.id ≠ id := by
  have hm := List.mem_of_find?_eq_some h
  have hp := List.find?_some h
  exact ⟨List.mem_range.1 hm, by simpa using hp⟩

/-- What an appended entry with a free id and no miss needs (R132). -/
theorem FaultForm.append {table : List FaultEntry} (h : FaultForm table) (e : FaultEntry)
    (hlen : table.length < Config.faultCapacity) (hid : e.id < Config.faultCapacity) (hfree : ∀ x ∈ table, x.id ≠ e.id)
    (hm : e.misses = 0) : FaultForm (table ++ [e]) := by
  obtain ⟨-, hnd, hlow, hmiss⟩ := h
  refine ⟨by simpa using hlen, ?_, ?_, ?_⟩
  · rw [List.map_append, List.map_singleton]
    refine List.nodup_append.2 ⟨hnd, List.nodup_singleton _, fun a ha b hb => ?_⟩
    obtain ⟨x, hx, rfl⟩ := List.mem_map.1 ha
    rw [List.mem_singleton.1 hb]
    exact hfree x hx
  · simp only [List.mem_append, List.mem_singleton]
    rintro x (hx | rfl)
    · exact hlow x hx
    · exact hid
  · simp only [List.mem_append, List.mem_singleton]
    rintro x (hx | rfl)
    · exact hmiss x hx
    · exact ⟨by omega, fun _ => by have := missLimit_range x.det.kind; omega⟩

theorem bestMatch_mem {f : Finding} {l : List FaultEntry} {e : FaultEntry} (h : bestMatch f l = some e) : e ∈ l := by
  induction l generalizing e with
  | nil => cases h
  | cons a l ih =>
    unfold bestMatch at h
    split at h
    · cases h
      exact List.mem_cons_self
    · rename_i b hb
      split at h
      · cases h
        exact List.mem_cons_of_mem _ (ih hb)
      · cases h
        exact List.mem_cons_self

/-! ### The stages of the fold (R129) -/

theorem Fold.create_form (x : Fold) (p : PortNo) (f : Finding) (s ticket : Nat) (h : FaultForm x.table) :
    FaultForm (x.create p f s ticket).table := by
  unfold Fold.create
  split
  · exact h
  · rename_i u hu
    obtain ⟨hsub, hlen⟩ := makeRoom_spec hu
    split
    · exact h
    · rename_i id hid
      obtain ⟨hlow, hfree⟩ := freeId_spec hid
      exact (h.sublist hsub).append _ (hlen h.1) hlow hfree rfl

theorem Fold.take_form (p : PortNo) (md s ticket : Nat) (x : Fold) (f : Finding) (h : FaultForm x.table) :
    FaultForm (Fold.take p md s ticket x f).table := by
  unfold Fold.take
  split
  · refine h.replaceEntry _ ⟨Nat.zero_le _, fun _ => (missLimit_range _).1⟩
  · exact x.create_form p f s ticket h

/-- A miss counted keeps an entry's misses below its limit, or clears it at 3 at most (R133). -/
theorem FaultEntry.miss_range (e : FaultEntry) (h : e.misses < missLimit e.det.kind) :
    e.miss.misses ≤ 3 ∧ (e.miss.state ≠ .cleared → e.miss.misses < missLimit e.miss.det.kind) := by
  have hl := missLimit_range e.det.kind
  obtain ⟨hlast, hmore⟩ := e.miss_spec
  by_cases hm : missLimit e.det.kind ≤ e.misses + 1
  · rw [hlast hm]
    exact ⟨by dsimp only; omega, fun hs => absurd rfl hs⟩
  · rw [hmore hm]
    exact ⟨by dsimp only; omega, fun _ => by dsimp only; omega⟩

@[simp] theorem FaultEntry.miss_id (e : FaultEntry) : e.miss.id = e.id := by
  unfold FaultEntry.miss; split <;> rfl
@[simp] theorem FaultEntry.miss_port (e : FaultEntry) : e.miss.port = e.port := by
  unfold FaultEntry.miss; split <;> rfl

theorem Fold.countMisses_form (x : Fold) (p : PortNo) (s limit : Nat) (hasBreak : Bool) (h : FaultForm x.table) :
    FaultForm (x.countMisses p s limit hasBreak).table := by
  refine h.of_map _ (fun e _ => by split <;> simp) fun e he => ?_
  split
  · rename_i hm
    have hc := ((isMissed_iff _ _ _ _ _ _).1 hm).2.2.1
    exact e.miss_range ((h.2.2.2 e he).2 hc)
  · exact h.2.2.2 e he

/-- A reclassification between STEP and BEND leaves the miss limit as it was (R133, R136). -/
theorem Fold.reclassify_form (x : Fold) (r : Nat × FaultKind) (hr : missLimit r.2 = 3) (h : FaultForm x.table) :
    FaultForm (x.reclassify r).table := by
  refine h.of_map _ (fun e _ => by split <;> rfl) fun e he => ?_
  have hm := h.2.2.2 e he
  split
  · rename_i hs
    have hk : e.det.kind = .step := by
      simp only [stillUnclassified, Bool.and_eq_true, decide_eq_true_eq] at hs
      exact hs.2.1
    refine ⟨hm.1, fun hc => ?_⟩
    have hlt := hm.2 hc
    rw [hk] at hlt
    exact hlt.trans_eq hr.symm
  · exact hm

/-- What each stage of the fold keeps, the fold keeps. -/
theorem foldTest_keeps {P : Fold → Prop} (p : PortNo) (md s ticket : Nat) (r : Report)
    (take : ∀ x f, P x → P (Fold.take p md s ticket x f)) (misses : ∀ x, P x → P (x.countMisses p s r.limit r.hasBreak))
    (reclassify : ∀ x, ∀ c ∈ r.reclass, P x → P (x.reclassify c)) (table : List FaultEntry)
    (h : P { table := table, touched := [], full := false, announced := false }) :
    P (foldTest table p md s ticket r) := by
  have hfold : P (r.findings.foldl (Fold.take p md s ticket)
      { table := table, touched := [], full := false, announced := false }) :=
    List.foldlRecOn r.findings _ h fun x hx f _ => take x f hx
  refine List.foldlRecOn r.reclass _ ?_ fun x hx c hc => reclassify x c hc hx
  split
  · exact misses _ hfold
  · exact hfold

/-- The fold keeps the fault table's form, when its reclassifications are between STEP and BEND (R129). -/
theorem foldTest_form (table : List FaultEntry) (p : PortNo) (md s ticket : Nat) (r : Report)
    (hr : ∀ c ∈ r.reclass, missLimit c.2 = 3) (h : FaultForm table) : FaultForm (foldTest table p md s ticket r).table :=
  foldTest_keeps (P := fun x => FaultForm x.table) p md s ticket r (fun x f hx => Fold.take_form p md s ticket x f hx)
    (fun x hx => x.countMisses_form p s r.limit r.hasBreak hx) (fun x c hc hx => x.reclassify_form c (hr c hc) hx) table h

/-- Every entry of the table belongs to a port in `A`. -/
def PortsIn (A : PortNo → Prop) (table : List FaultEntry) : Prop := ∀ e ∈ table, A e.port

theorem PortsIn.of_map {A : PortNo → Prop} {table : List FaultEntry} (h : PortsIn A table)
    (g : FaultEntry → FaultEntry) (hg : ∀ e, (g e).port = e.port) : PortsIn A (table.map g) := by
  unfold PortsIn
  rw [List.forall_mem_map]
  exact fun e he => (hg e).symm ▸ h e he

theorem Fold.take_ports {A : PortNo → Prop} (p : PortNo) (hp : A p) (md s ticket : Nat) (x : Fold) (f : Finding)
    (h : PortsIn A x.table) : PortsIn A (Fold.take p md s ticket x f).table := by
  unfold Fold.take
  split
  · rename_i e he
    intro y hy
    rcases mem_replaceEntry hy with rfl | hy
    · exact h e (List.mem_filter.1 (bestMatch_mem he)).1
    · exact h y hy
  · unfold Fold.create
    split
    · exact h
    · rename_i u hu
      split
      · exact h
      · intro y hy
        rcases List.mem_append.1 hy with hy | hy
        · exact h y ((makeRoom_spec hu).1.subset hy)
        · rw [List.mem_singleton.1 hy]
          exact hp

/-- The fold gives entries to no port but the test's own (R129, R132). -/
theorem foldTest_ports {A : PortNo → Prop} (table : List FaultEntry) (p : PortNo) (hp : A p) (md s ticket : Nat)
    (r : Report) (h : PortsIn A table) : PortsIn A (foldTest table p md s ticket r).table :=
  foldTest_keeps (P := fun x => PortsIn A x.table) p md s ticket r (fun x f hx => Fold.take_ports p hp md s ticket x f hx)
    (fun _ hx => hx.of_map _ fun e => by split <;> simp)
    (fun _ _ _ hx => hx.of_map _ fun e => by split <;> rfl) table h

/-- A CONFIRM reclassifies between STEP and BEND alone (R124). -/
theorem analyse_reclass (sn : Snapshot) (kind : Kind) (p : PortNo) (traces : PerBand (Option Trace))
    (views : PerBand (Option View)) (table : List FaultEntry) :
    ∀ c ∈ (analyse sn kind p traces views table).reclass, missLimit c.2 = 3 := by
  have hweigh : ∀ a b, missLimit (weigh sn a b) = 3 := by
    intro a b
    unfold weigh
    split <;> rfl
  intro c hc
  unfold analyse at hc
  dsimp only at hc
  split at hc
  · cases hc
  · split at hc
    · cases hc
    · dsimp only at hc
      split at hc
      · obtain ⟨e, -, he⟩ := List.mem_filterMap.1 hc
        unfold reclassified at he
        split at he
        · split at he
          · obtain ⟨a, -, rfl⟩ := Option.map_eq_some_iff.1 he
            exact hweigh _ _
          · cases he
        · cases he
      · cases hc

end Sys2Proof.Machine
end

section
/-! SUPPORT. The latches (R39, R40): the latch drain leaves a latch set only while an URGENT test of its port is RUNNING
or the queue is full, whatever the latches were before it, and a change of the test in hand keeps that. -/

namespace Sys2Proof.Machine

/-! ### Queues that serve their latches no worse -/

/-- `r` has no latch that `q` has not, and serves every latch that `q` serves. -/
structure TestQueue.Grows (q r : TestQueue) : Prop where
  latches : ∀ p, r.latches.at p = true → q.latches.at p = true
  running : ∀ p, q.urgentRunning p = true → r.urgentRunning p = true
  full : q.isFull = true → r.isFull = true

theorem TestQueue.Grows.refl (q : TestQueue) : q.Grows q := ⟨fun _ => id, fun _ => id, id⟩

theorem TestQueue.Grows.trans {q r u : TestQueue} (h : q.Grows r) (h' : r.Grows u) : q.Grows u :=
  ⟨fun p hp => h.latches p (h'.latches p hp), fun p hp => h'.running p (h.running p hp), fun hf => h'.full (h.full hf)⟩

theorem TestQueue.Grows.latchesServed {q r : TestQueue} (h : q.Grows r) (hq : q.LatchesServed) : r.LatchesServed :=
  fun p hp => (hq p (h.latches p hp)).imp (h.running p) h.full

/-- Entries changed in place, where a RUNNING URGENT stays one. -/
theorem TestQueue.Grows.of_map {q r : TestQueue} (g : Entry → Entry) (hr : r.entries = q.entries.map g)
    (hl : r.latches = q.latches)
    (hg : ∀ e, e.run.isSome = true → (g e).run.isSome = true ∧ (g e).port = e.port ∧ (g e).kind = e.kind) :
    q.Grows r := by
  refine ⟨fun p hp => hl ▸ hp, fun p hp => ?_, fun hf => ?_⟩
  · rw [TestQueue.urgentRunning_iff] at hp ⊢
    obtain ⟨e, he, hrun, hport, hkind⟩ := hp
    obtain ⟨h1, h2, h3⟩ := hg e hrun
    exact ⟨g e, by rw [hr]; exact List.mem_map_of_mem he, h1, h2.trans hport, h3.trans hkind⟩
  · rw [TestQueue.isFull_iff] at hf ⊢
    simpa [hr] using hf

theorem TestQueue.setRun_grows (q : TestQueue) (f : RunInfo → RunInfo) : q.Grows (q.setRun f) :=
  .of_map _ rfl rfl fun _ h => ⟨by simpa using h, rfl, rfl⟩

theorem TestQueue.start_grows (q : TestQueue) (n : Nat) (plan : BandSet) (pointer : Client) :
    q.Grows { q.start n plan with pointer := pointer } := by
  refine .of_map _ (q.start_entries n plan) rfl fun e h => ⟨?_, e.started_port n plan, e.started_kind n plan⟩
  unfold Entry.started
  split
  · rfl
  · exact h

theorem TestQueue.upgrade_grows (q : TestQueue) (p : PortNo) : q.Grows (q.upgrade p) := by
  refine .of_map _ (q.upgrade_entries p) rfl fun e h => ⟨by simpa using h, e.upgraded_port p, ?_⟩
  have hw : e.waitsAs p .routine = false := by
    rw [← Bool.not_eq_true, Entry.waitsAs_iff]
    rintro ⟨hn, -⟩
    simp [hn] at h
  simp [Entry.upgraded, hw]

theorem TestQueue.addEntry_grows (q : TestQueue) (c : Client) (p : PortNo) (k : Kind) (o : Origin) :
    q.Grows (q.addEntry c p k o) := by
  refine ⟨fun _ => id, fun r hr => ?_, fun hf => ?_⟩
  · rw [TestQueue.urgentRunning_iff] at hr ⊢
    obtain ⟨e, he, h⟩ := hr
    exact ⟨e, List.mem_append_left _ he, h⟩
  · rw [TestQueue.isFull_iff] at hf ⊢
    exact hf.trans (by simp)

theorem TestQueue.clearLatch_grows (q : TestQueue) (p : PortNo) : q.Grows (q.setLatch p false) := by
  refine ⟨fun r hr => ?_, fun _ => id, id⟩
  rw [TestQueue.setLatch_at] at hr
  split at hr
  · cases hr
  · exact hr

theorem TestQueue.clearLatchFor_grows (q : TestQueue) (p : PortNo) (k : Kind) : q.Grows (q.clearLatchFor p k) := by
  unfold TestQueue.clearLatchFor
  split
  · exact q.clearLatch_grows p
  · exact .refl q

/-- A latch set while it is served keeps the latches served. -/
theorem TestQueue.LatchesServed.setLatch {q : TestQueue} (h : q.LatchesServed) (p : PortNo)
    (hp : q.urgentRunning p = true ∨ q.isFull = true) : (q.setLatch p true).LatchesServed := by
  intro r hr
  rw [TestQueue.setLatch_at] at hr
  split at hr
  · exact ‹p = r› ▸ hp
  · exact h r hr

/-! ### The latch drain (R40) -/

theorem State.drainPort_grows (s : State) (p : PortNo) : s.queue.Grows (s.drainPort p).queue := by
  unfold State.drainPort
  split
  · exact .refl _
  · split
    · exact s.queue.clearLatch_grows p
    · split
      · exact (s.queue.upgrade_grows p).trans (TestQueue.clearLatch_grows _ p)
      · split
        · exact (s.queue.addEntry_grows _ p _ _).trans (TestQueue.clearLatch_grows _ p)
        · exact .refl _

/-- The drain's work on a claimed port serves its latch (R40). -/
theorem State.drainPort_serves (s : State) (p : PortNo)
    (hc : s.queue.latches.at p = true → (s.port p).claimant.isSome = true)
    (hp : (s.drainPort p).queue.latches.at p = true) :
    (s.drainPort p).queue.urgentRunning p = true ∨ (s.drainPort p).queue.isFull = true := by
  have hl := (s.drainPort_grows p).latches p hp
  have hcleared : ∀ q : TestQueue, (q.setLatch p false).latches.at p ≠ true := fun q => by
    simp [TestQueue.setLatch_at]
  unfold State.drainPort at hp ⊢
  split at hp
  · rename_i hskip
    rw [if_pos hskip]
    rcases hskip with h | h | h
    · rw [hl] at h; cases h
    · exact .inr h
    · exact .inl h
  · split at hp
    · exact absurd hp (hcleared _)
    · split at hp
      · exact absurd hp (hcleared _)
      · split at hp
        · exact absurd hp (hcleared _)
        · rename_i hn
          have := hc hl
          rw [hn] at this
          cases this

theorem State.drainPort_port (s : State) (p q : PortNo) : (s.drainPort p).port q = s.port q := by
  unfold State.drainPort
  (repeat' split) <;> rfl

/-- After the latch drain every latch that is still set is served (R39, R40). -/
theorem State.drain_latchesServed (s : State)
    (hc : ∀ p, s.queue.latches.at p = true → (s.port p).claimant.isSome = true) : s.drain.queue.LatchesServed := by
  have h : ∀ (l : List PortNo) (t : State), (∀ p, t.queue.latches.at p = true → (t.port p).claimant.isSome = true) →
      ∀ p, p ∈ l ∨ (t.queue.latches.at p = true → t.queue.urgentRunning p = true ∨ t.queue.isFull = true) →
      (l.foldl State.drainPort t).queue.latches.at p = true →
      (l.foldl State.drainPort t).queue.urgentRunning p = true ∨ (l.foldl State.drainPort t).queue.isFull = true := by
    intro l
    induction l with
    | nil => exact fun t _ p hp => hp.elim (fun h => absurd h List.not_mem_nil) id
    | cons r l ih =>
      intro t ht p hp
      have hg := t.drainPort_grows r
      refine ih (t.drainPort r) (fun q hq => ?_) p ?_
      · rw [t.drainPort_port r q]
        exact ht q (hg.latches q hq)
      · rcases hp with hp | hp
        · rcases List.mem_cons.1 hp with rfl | hp
          · exact .inr (t.drainPort_serves p (ht p))
          · exact .inl hp
        · exact .inr fun hl => (hp (hg.latches p hl)).imp (hg.running p) hg.full
  have hall : ∀ p, p ∈ portList := List.mem_finRange
  unfold State.drain
  exact fun p => h portList s hc p (.inl (hall p))

theorem TenancyInv.latchClaimed {s : State} (h : TenancyInv s) (p : PortNo) (hp : s.queue.latches.at p = true) :
    (s.port p).claimant.isSome = true := h.2.2 p (.inr (.inr hp))

/-! ### The test in hand -/

/-- After the end of a test the latches are served, if they were while nothing was RUNNING (R35 step 4, R39). -/
theorem State.endTest_latchesServed (s : State) (ht : TenancyInv s)
    (hs : s.queue.running = none → s.queue.LatchesServed) (status : Status) (cause : Option Cause) (r : Report)
    (full : Bool) : (s.endTest status cause r full).queue.LatchesServed := by
  cases h : s.queue.running with
  | none =>
    rw [s.endTest_of_none h]
    simpa using hs h
  | some e =>
    obtain ⟨ri, hri⟩ := Option.isSome_iff_exists.1 (TestQueue.running_eq_some h).2
    rw [s.endTest_of_running h hri]
    simp only [State.leaveTest_queue, State.discardWork_queue]
    exact State.drain_latchesServed _ ((s.testGone_moves h _ _).keeps (fun _ _ => Move.tenancyInv) ht).latchClaimed

/-- A change of the test in hand keeps the latches served (R39). -/
theorem TestMoves.latchesServed {s t : State} (h : TestMoves s t) (ht : TenancyInv s) (hs : s.queue.LatchesServed) :
    t.queue.LatchesServed := by
  refine (h.keeps (P := fun u => TenancyInv u ∧ u.queue.LatchesServed) (fun u v hm hu => ⟨?_, ?_⟩) ⟨ht, hs⟩).2
  · exact hm.moves.keeps (fun _ _ => Move.tenancyInv) hu.1
  · cases hm with
    | quiet _ queue => exact queue ▸ hu.2
    | setRun f => exact (u.queue.setRun_grows f).latchesServed hu.2
    | endTest status cause r full => exact u.endTest_latchesServed hu.1 (fun _ => hu.2) status cause r full

/-- A change of the test in hand leaves the latches served when it leaves nothing RUNNING, if they were served or a
test was RUNNING before (R35 step 4, R39). -/
theorem TestMoves.latchesServed_of_none {s t : State} (h : TestMoves s t) (ht : TenancyInv s)
    (hs : s.queue.running = none → s.queue.LatchesServed) : t.queue.running = none → t.queue.LatchesServed := by
  refine (h.keeps (P := fun u => TenancyInv u ∧ (u.queue.running = none → u.queue.LatchesServed))
    (fun u v hm hu => ⟨?_, ?_⟩) ⟨ht, hs⟩).2
  · exact hm.moves.keeps (fun _ _ => Move.tenancyInv) hu.1
  · cases hm with
    | quiet _ queue => exact queue ▸ hu.2
    | setRun f =>
      intro hn
      rw [State.setQueue_queue, TestQueue.setRun_running, Option.map_eq_none_iff] at hn
      exact (u.queue.setRun_grows f).latchesServed (hu.2 hn)
    | endTest status cause r full => exact fun _ => u.endTest_latchesServed hu.1 hu.2 status cause r full

end Sys2Proof.Machine
end

section
/-! SUPPORT. The arbiter (R29 to R33): what an entry's eligibility depends on, that the choice is empty exactly when no
entry is eligible, and that after the arbiter's chance no choice waits. -/

namespace Sys2Proof.Machine

/-! ### Eligibility (R29, R49, R50) -/

/-- Whether an entry may run is decided by the hold set, the selector and the owner's window; band A's enable never
empties the plan (R49, R50). -/
theorem State.resolve_nonempty (s : State) (p : PortNo) (k : Kind) :
    (s.resolve p k).nonempty = (decide ((s.port p).claimant ≠ none ∧ s.sel.state ≠ .fault ∧ s.hold.isEmpty = true) &&
      (decide (k = .urgent) || s.ownerWindowOpen p)) := by
  unfold State.resolve
  split
  · rename_i h
    have hf : ¬ ((s.port p).claimant ≠ none ∧ s.sel.state ≠ .fault ∧ s.hold.isEmpty = true) := by
      rintro ⟨h1, h2, h3⟩
      simp [h1, h2, h3] at h
    rw [decide_eq_false hf]
    rfl
  · rename_i h
    have ht : (s.port p).claimant ≠ none ∧ s.sel.state ≠ .fault ∧ s.hold.isEmpty = true := by
      simpa [not_or] using h
    rw [decide_eq_true ht]
    cases k with
    | routine | urgent => cases s.ownerWindowOpen p <;> simp [planOf, BandSet.nonempty]
    | baseline b => cases b <;> simp [planOf, BandSet.nonempty]
    | confirm => simp [planOf, BandSet.nonempty]

/-- An entry is as eligible in a state that agrees on its port's claimant, the selector's FAULT, the hold set, the open
windows and the store. -/
theorem State.eligible_congr {s t : State} (e : Entry) (hclaim : (t.port e.port).claimant = (s.port e.port).claimant)
    (hsel : t.sel.state = s.sel.state) (hhold : t.hold.members = s.hold.members)
    (hopen : ∀ c, t.office.isOpen c = s.office.isOpen c) (hstore : t.store = s.store) :
    t.eligible e = s.eligible e := by
  have hempty : t.hold.isEmpty = s.hold.isEmpty := by
    unfold HoldUnit.isEmpty HoldUnit.list
    rw [hhold]
  have hwin : t.ownerWindowOpen e.port = s.ownerWindowOpen e.port := by
    unfold State.ownerWindowOpen
    rw [hclaim]
    split
    · exact hopen _
    · rfl
  simp only [State.eligible, State.resolve_nonempty, hclaim, hsel, hempty, hwin, hstore]

/-! ### The choice (R31, R32) -/

theorem mem_turnOrder (pointer c : Client) : c ∈ turnOrder pointer := by
  revert pointer c
  decide

/-- The choice is empty exactly when no entry is eligible (R31, R32). -/
theorem State.choose_eq_none_iff (s : State) :
    s.choose = none ↔ ∀ e ∈ s.queue.entries, s.eligible e = false := by
  constructor
  · intro h e he
    unfold State.choose at h
    split at h
    · cases h
    · rename_i hu
      have hu := List.find?_eq_none.1 hu e he
      have hturn := List.findSome?_eq_none_iff.1 h e.client (mem_turnOrder _ _)
      rw [Option.map_eq_none_iff] at hturn
      unfold State.turnEntry at hturn
      split at hturn
      · cases hturn
      · rename_i hc
        have hc := List.find?_eq_none.1 hc e he
        have hr := List.find?_eq_none.1 hturn e he
        by_contra hel
        have hel : s.eligible e = true := by simpa using hel
        cases hk : e.kind <;> simp [hel, hk, Kind.isBaseline] at hu hc hr
  · intro h
    have hfind : ∀ p : Entry → Bool, s.queue.entries.find? (fun e => p e && s.eligible e) = none := fun p =>
      List.find?_eq_none.2 fun e he => by simp [h e he]
    have hturn : ∀ c, s.turnEntry c = none := fun c => by
      unfold State.turnEntry
      rw [hfind (fun e => decide (e.client = c) && decide (e.kind = .confirm))]
      exact hfind (fun e => decide (e.client = c) && (decide (e.kind = .routine) || e.kind.isBaseline))
    unfold State.choose State.eligibleUrgent
    rw [hfind (fun e => decide (e.kind = .urgent))]
    exact List.findSome?_eq_none_iff.2 fun c _ => by rw [hturn c]; rfl

/-- The chosen entry is one of the queue. -/
theorem State.choose_mem {s : State} {e : Entry} {pointer : Client} (h : s.choose = some (e, pointer)) :
    e ∈ s.queue.entries := by
  unfold State.choose at h
  split at h
  · rename_i x hx
    cases h
    exact List.mem_of_find?_eq_some hx
  · obtain ⟨c, -, hc⟩ := List.exists_of_findSome?_eq_some h
    obtain ⟨x, hx, ⟨⟩⟩ := Option.map_eq_some_iff.1 hc
    unfold State.turnEntry at hx
    split at hx
    · rename_i y hy
      cases hx
      exact List.mem_of_find?_eq_some hy
    · exact List.mem_of_find?_eq_some hx

/-- With no choice waiting the arbiter changes nothing (R30). -/
theorem State.arbitrate_of_choiceInv {s : State} (h : ChoiceInv s) : s.arbitrate = s := by
  unfold State.arbitrate
  split
  · rename_i hm
    rw [(s.choose_eq_none_iff).2 (h hm)]
  · rfl

/-! ### The start of a test (R33) -/

/-- A position request fails only in FAULT (R59). -/
theorem Selector.request_report (x : Selector) (p : PortNo) (h : x.state ≠ .fault) :
    (x.request p).2 = .quiet ∨ (x.request p).2 = .arrival := by
  unfold Selector.request
  split
  · split
    · exact .inr rfl
    · exact .inl rfl
  · split <;> exact .inl rfl
  · split <;> exact .inl rfl
  · exact .inl rfl
  · exact .inl rfl
  · exact absurd ‹_› h

/-- The entry that runs after a start has just been started. -/
theorem TestQueue.start_running {q : TestQueue} (hq : q.running = none) {e : Entry} (he : e ∈ q.entries)
    (plan : BandSet) : ∃ x, (q.start e.ticket plan).running = some x ∧
      x.run = some { plan := plan, done := ⟨false, false⟩, suspended := false, cancelPending := false } := by
  cases h : (q.start e.ticket plan).running with
  | none =>
    have hn := (TestQueue.running_eq_none _).1 h (e.started e.ticket plan)
      (by rw [TestQueue.start_entries]; exact List.mem_map_of_mem he)
    simp [Entry.started] at hn
  | some x =>
    obtain ⟨hx, hrun⟩ := TestQueue.running_eq_some h
    rw [TestQueue.start_entries] at hx
    obtain ⟨y, hy, rfl⟩ := List.mem_map.1 hx
    refine ⟨_, rfl, ?_⟩
    unfold Entry.started at hrun ⊢
    split
    · rfl
    · rename_i hne
      rw [if_neg hne, (q.running_eq_none).1 hq y hy] at hrun
      cases hrun

/-- What going on makes of the state: the RUNNING entry not suspended, the mark cleared, and a busy engine with its
last-trace pair kept (R78, R161). -/
theorem State.goOn_eq (s : State) (ri : RunInfo) : ∃ eng : Engine,
    s.goOn ri = ((s.setQueue (s.queue.setRun (fun x => { x with suspended := false }))).setEng eng).clearMark ∧
      eng.state ≠ .idle ∧ eng.lastPair = s.eng.lastPair := by
  unfold State.goOn
  dsimp only
  split
  · split <;> exact ⟨_, rfl, nofun, rfl⟩
  · split <;> exact ⟨_, rfl, nofun, rfl⟩
  · exact ⟨_, rfl, nofun, rfl⟩

/-- A started test waits in POSITION, or the selector is there already and the test goes on (R33, R78). -/
theorem State.startTest_cases {s : State} (hs : QueueInv s) (hm : s.mayChoose = true) {e : Entry}
    (he : e ∈ s.queue.entries) (pointer : Client) :
    s.startTest e pointer = (s.prepared e pointer).setSel (s.sel.request e.port).1 ∨
      ∃ ri, s.startTest e pointer = ((s.prepared e pointer).setSel (s.sel.request e.port).1).goOn ri := by
  obtain ⟨hidle, hempty, hfault⟩ := (s.mayChoose_iff).1 hm
  obtain ⟨x, hx, hrun⟩ := TestQueue.start_running (((queueInv_iff s).1 hs).2 hidle) he (s.resolve e.port e.kind)
  rw [State.startTest_eq, State.requestPosition, State.selEvent]
  rcases Selector.request_report s.sel e.port hfault with h | h
  · rw [show ((s.prepared e pointer).sel.request e.port).2 = .quiet from h]
    exact .inl rfl
  · rw [show ((s.prepared e pointer).sel.request e.port).2 = .arrival from h]
    refine .inr ⟨{ plan := s.resolve e.port e.kind, done := ⟨false, false⟩, suspended := false, cancelPending := false }, ?_⟩
    change State.heed ((s.prepared e pointer).setSel (s.sel.request e.port).1) .arrival = _
    generalize hu : (s.prepared e pointer).setSel (s.sel.request e.port).1 = u
    have hur : u.queue.running = some x := by rw [← hu]; exact hx
    have huh : u.hold.isEmpty = true := by rw [← hu]; exact hempty
    have hue : u.eng.state = .position := by rw [← hu]; rfl
    obtain ⟨_, _, _, _, _, _⟩ := x
    dsimp only at hrun
    subst hrun
    simp only [State.heed, hue, State.arrive, hur, huh, reduceIte, Bool.false_eq_true]

/-- A started test leaves the engine out of IDLE: it waits in POSITION, or its first band begins (R33, R78). -/
theorem State.startTest_busy {s : State} (hs : QueueInv s) (hm : s.mayChoose = true) {e : Entry}
    (he : e ∈ s.queue.entries) (pointer : Client) : (s.startTest e pointer).eng.state ≠ .idle := by
  rcases State.startTest_cases hs hm he pointer with h | ⟨ri, h⟩
  · rw [h]
    exact nofun
  · obtain ⟨eng, hgo, hbusy, -⟩ := State.goOn_eq ((s.prepared e pointer).setSel (s.sel.request e.port).1) ri
    rw [h, hgo]
    exact hbusy

/-- After the arbiter's chance no choice waits (R30). -/
theorem State.arbitrate_choiceInv {s : State} (hs : QueueInv s) : ChoiceInv s.arbitrate := by
  unfold State.arbitrate
  split
  · rename_i hm
    split
    · rename_i e pointer hc
      intro hb
      exact absurd ((State.mayChoose_iff _).1 hb).1 (State.startTest_busy hs hm (State.choose_mem hc) pointer)
    · rename_i hc
      exact fun _ => (s.choose_eq_none_iff).1 hc
  · rename_i hm
    exact fun hc => absurd hc hm

/-! ### Changes that make no choice possible -/

/-- A change that leaves the engine's state, the selector's, the hold set, the open windows and the store as they were,
and the claimants of the ports that have QUEUED entries, and adds no QUEUED entry, makes no choice possible (R30). -/
theorem ChoiceInv.congr {s t : State} (h : ChoiceInv s)
    (hent : ∀ e ∈ t.queue.entries, e.run = none →
      e ∈ s.queue.entries ∧ (t.port e.port).claimant = (s.port e.port).claimant)
    (heng : t.eng.state = s.eng.state) (hsel : t.sel.state = s.sel.state) (hhold : t.hold.members = s.hold.members)
    (hopen : ∀ c, t.office.isOpen c = s.office.isOpen c) (hstore : t.store = s.store) : ChoiceInv t := by
  intro hm e he
  have hempty : t.hold.isEmpty = s.hold.isEmpty := by
    unfold HoldUnit.isEmpty HoldUnit.list
    rw [hhold]
  have hms : s.mayChoose = true := by
    rw [State.mayChoose_iff] at hm ⊢
    rwa [heng, hempty, hsel] at hm
  by_cases hr : e.run = none
  · obtain ⟨hes, hclaim⟩ := hent e he hr
    rw [State.eligible_congr e hclaim hsel hhold hopen hstore]
    exact h hms e hes
  · simp [State.eligible, hr]

/-- A busy engine waits for no choice (R30). -/
theorem choiceInv_of_busy {s : State} (h : s.eng.state ≠ .idle) : ChoiceInv s :=
  fun hm => absurd ((s.mayChoose_iff).1 hm).1 h

/-- A hold waits for no choice (R30). -/
theorem choiceInv_of_hold {s : State} {c : Client} (h : s.hold.members.at c = true) : ChoiceInv s := by
  intro hm
  have := (HoldUnit.isEmpty_iff _).1 ((s.mayChoose_iff).1 hm).2.1 c
  rw [h] at this
  cases this

/-- A second that is no minute's first leaves the minute of day as it was (R45). -/
theorem minuteOf_nextSecond (v : Nat) (h : nextSecond v % 60 ≠ 0) :
    minuteOf (nextSecond v) = minuteOf v := by
  unfold minuteOf nextSecond Config.secondsPerDay at *
  split at h
  · omega
  · rw [if_neg ‹_›]
    omega

/-- A window is as open a second later, but for a minute change (R45, R48). -/
theorem Window.isOpen_nextSecond (w : Window) (v : Nat) (h : nextSecond v % 60 ≠ 0) :
    w.isOpen (some (nextSecond v)) = w.isOpen (some v) := by
  simp only [Window.isOpen, minuteOf_nextSecond v h]

end Sys2Proof.Machine
end

section
/-! SUPPORT. Every request and every event of a block as a chain of small changes that keeps the latches served and
leaves no choice waiting (`Event`), and what a step keeps when every event keeps it. -/

namespace Sys2Proof.Machine

/-- A change of parts the queue's, the ports', the faults' and the office's rules do not speak of. -/
theorem Moves.quiet {s t : State} (queue : t.queue = s.queue) (ports : t.ports = s.ports)
    (faults : t.faults = s.faults) (office : t.office = s.office)
    (idle : t.eng.state = .idle → s.eng.state = .idle ∨ s.queue.running = none) : Moves s t :=
  (Move.quiet t queue ports faults office idle).moves

theorem Moves.hw (s : State) (x : Highway) : Moves s (s.setHw x) := .quiet rfl rfl rfl rfl .inl

theorem Moves.store (s : State) (x : Store) : Moves s (s.setStore x) := .quiet rfl rfl rfl rfl .inl

/-! ### Work and events -/

/-- A chain of small changes that keeps the latches served (R39). -/
structure Work (s t : State) : Prop where
  moves : Moves s t
  latches : QueueInv s → TenancyInv s → s.queue.LatchesServed → t.queue.LatchesServed

/-- Work that leaves no choice waiting if none did (R30). -/
structure Event (s t : State) : Prop extends Work s t where
  choice : QueueInv s → TenancyInv s → ChoiceInv s → ChoiceInv t

theorem Work.refl (s : State) : Work s s := ⟨.refl s, fun _ _ => id⟩

theorem Work.trans {s t u : State} (h : Work s t) (h' : Work t u) : Work s u :=
  ⟨h.moves.trans h'.moves, fun hq ht hl => h'.latches (h.moves.keeps (fun _ _ => Move.queueInv) hq)
    (h.moves.keeps (fun _ _ => Move.tenancyInv) ht) (h.latches hq ht hl)⟩

theorem Moves.work {s t : State} (h : Moves s t) (hg : s.queue.Grows t.queue) : Work s t :=
  ⟨h, fun _ _ hl => hg.latchesServed hl⟩

/-- Small changes that leave the queue as it was. -/
theorem Moves.workOfQueue {s t : State} (h : Moves s t) (hq : t.queue = s.queue) : Work s t :=
  h.work (hq ▸ .refl _)

theorem TestMoves.work {s t : State} (h : TestMoves s t) : Work s t :=
  ⟨h.moves, fun _ ht hl => h.latchesServed ht hl⟩

theorem State.arbitrate_work (s : State) : Work s s.arbitrate := by
  unfold State.arbitrate
  split
  · rename_i hm
    split
    · exact ((s.prepared_moves _ _ ((s.mayChoose_iff).1 hm).1).work (TestQueue.start_grows ..)).trans
        (State.requestPosition_testMoves ..).work
    · exact .refl s
  · exact .refl s

theorem Event.refl (s : State) : Event s s := ⟨.refl s, fun _ _ => id⟩

theorem Event.trans {s t u : State} (h : Event s t) (h' : Event t u) : Event s u :=
  ⟨h.toWork.trans h'.toWork, fun hq ht hc => h'.choice (h.moves.keeps (fun _ _ => Move.queueInv) hq)
    (h.moves.keeps (fun _ _ => Move.tenancyInv) ht) (h.choice hq ht hc)⟩

/-- Work that the arbiter's chance follows (R30). -/
theorem Work.arbitrated {s u : State} (h : Work s u) : Event s u.arbitrate :=
  ⟨h.trans u.arbitrate_work, fun hq _ _ => State.arbitrate_choiceInv (h.moves.keeps (fun _ _ => Move.queueInv) hq)⟩

/-- A change of the highway, of the waiting commands or of the faults. -/
theorem Moves.event {s t : State} (h : Moves s t) (queue : t.queue = s.queue) (ports : t.ports = s.ports)
    (eng : t.eng = s.eng) (sel : t.sel = s.sel) (hold : t.hold.members = s.hold.members) (office : t.office = s.office)
    (store : t.store = s.store) : Event s t := by
  refine ⟨h.workOfQueue queue, fun _ _ hc => hc.congr (fun e he _ => ⟨queue ▸ he, ?_⟩) (by rw [eng]) (by rw [sel]) hold
    (fun _ => by rw [office]) store⟩
  unfold State.port
  rw [ports]

theorem Event.setHw (s : State) (x : Highway) : Event s (s.setHw x) :=
  (Moves.hw s x).event rfl rfl rfl rfl rfl rfl rfl

theorem Event.setLink (s : State) (c : Client) (l : Link) : Event s (s.setLink c l) := .setHw ..

/-- A record that keeps its claimant changes. -/
theorem Move.recordEvent {s : State} {p : PortNo} {r : PortRecord} (h : Move s (s.setPort p r))
    (hr : r.claimant = (s.port p).claimant) : Event s (s.setPort p r) := by
  refine ⟨h.moves.workOfQueue rfl, fun _ _ hc => hc.congr (fun e he _ => ⟨he, ?_⟩) rfl rfl rfl (fun _ => rfl) rfl⟩
  rw [State.setPort_port]
  split
  · subst_vars
    exact hr
  · rfl

/-! ### The requests of the port table (chapter 1) -/

theorem doClaim_event (c : Client) (port : Payload) (s : State) : Event s (doClaim c port s).2 := by
  unfold doClaim
  split
  · exact .refl s
  · rename_i p _
    split
    · rename_i hn
      have hm : Move s (s.setPort p { s.port p with claimant := some c }) :=
        Move.record p _ (fun h => by simp [hn] at h) .inl .inl (.inl rfl)
      refine ⟨hm.moves.workOfQueue rfl, fun _ ht hc => hc.congr (fun e he _ => ⟨he, ?_⟩) rfl rfl rfl (fun _ => rfl) rfl⟩
      have hclaimed := ht.1 e he
      rw [State.setPort_port, if_neg]
      rintro rfl
      rw [hn] at hclaimed
      cases hclaimed
    · split <;> exact .refl s

/-- What stays of the queue, the ports, the faults and the office when the test in hand is detached (R6). -/
theorem State.detach_frame (s : State) :
    s.detach.queue = s.queue ∧ s.detach.ports = s.ports ∧ s.detach.faults = s.faults ∧ s.detach.office = s.office := by
  unfold State.detach
  dsimp only
  split <;> simp

@[simp] theorem Engine.forgetPair_state (eng : Engine) (p : PortNo) : (eng.forgetPair p).state = eng.state := by
  unfold Engine.forgetPair
  (repeat' split) <;> rfl

/-- The RUNNING entry of a port, as the model asks for it (R6). -/
theorem State.runsPort_iff (s : State) (p : PortNo) :
    s.runsPort p = true ↔ ∃ e, s.queue.running = some e ∧ e.port = p := by
  unfold State.runsPort
  split
  · rename_i e he
    simp [he]
  · rename_i hn
    simp [hn]

/-- The port's test detached, if it runs one (R6). -/
def State.detachIf (s : State) (p : PortNo) : State := if s.runsPort p then s.detach else s

theorem State.detachIf_frame (s : State) (p : PortNo) :
    (s.detachIf p).queue = s.queue ∧ (s.detachIf p).ports = s.ports ∧ (s.detachIf p).faults = s.faults ∧
      (s.detachIf p).office = s.office := by
  unfold State.detachIf
  split
  · exact s.detach_frame
  · exact ⟨rfl, rfl, rfl, rfl⟩

/-- The entries of a released port, and its last-trace pair, are gone. -/
def State.released (s : State) (p : PortNo) : State :=
  ((s.detachIf p).setEng ((s.detachIf p).eng.forgetPair p)).setQueue
    ((s.detachIf p).queue.drop (fun e => decide (e.port = p)))

/-- The port's latch, fault entries and record are gone as well (R5 to R7). -/
def State.cleared (s : State) (p : PortNo) : State :=
  (((s.released p).setQueue ((s.released p).queue.setLatch p false)).setFaults
    (s.faults.filter (fun e => decide (e.port ≠ p)))).setPort p PortRecord.free

/-- The release of a port: everything of it gone at once, then the latch drain if an entry has left (R5, R40). -/
theorem State.releasePort_eq (s : State) (p : PortNo) :
    s.releasePort p = if s.queue.entries.any (fun e => decide (e.port = p)) then (s.cleared p).drain else s.cleared p := by
  obtain ⟨hq, -, hf, -⟩ := s.detachIf_frame p
  have hnone : s.queue.entries.any (fun e => decide (e.port = p)) = false →
      (s.detachIf p).queue.drop (fun e => decide (e.port = p)) = (s.detachIf p).queue := fun h =>
    TestQueue.drop_of_none _ _ (by rw [hq]; simpa using h)
  have hfreed : s.releasePort p = ((((s.detachIf p).setPort p PortRecord.free).setFaults
      ((s.detachIf p).faults.filter (fun e => decide (e.port ≠ p)))).setEng ((s.detachIf p).eng.forgetPair p)
      |>.setQueue ((s.detachIf p).queue.setLatch p false)).depart (fun e => decide (e.port = p)) := rfl
  rw [hfreed, State.depart, State.cleared, State.released, ← hf]
  simp only [State.setQueue_queue, TestQueue.setLatch_entries, hq]
  split
  · rfl
  · rename_i h
    have := hnone (by simpa using h)
    rw [hq] at this
    rw [this]
    rfl

theorem State.cleared_moves (s : State) (p : PortNo) : Moves s (s.cleared p) := by
  obtain ⟨hq, hp, hf, ho⟩ := s.detachIf_frame p
  have hleft : Move s (s.released p) := by
    refine Move.drop _ (fun e => decide (e.port = p)) ?_ hp hf ho fun hi => ?_
    · rw [← hq]; rfl
    · have hi : (s.detachIf p).eng.state = .idle := by simpa [State.released] using hi
      unfold State.detachIf at hi
      split at hi
      · rename_i hr
        obtain ⟨e, he, hep⟩ := (s.runsPort_iff p).1 hr
        exact .inr (.inr ⟨e, he, by simpa using hep⟩)
      · exact .inl hi
  refine hleft.moves.trans (.trans (Move.latch p false nofun).moves ?_)
  refine .trans (Move.moves (Move.faults (s.faults.filter (fun e => decide (e.port ≠ p))) ?_ ?_)) ?_
  · intro h
    have h : FaultForm (s.detachIf p).faults := h
    exact FaultForm.sublist (hf ▸ h) List.filter_sublist
  · intro f hm
    have hm : f ∈ (s.detachIf p).faults := hf.symm ▸ (List.mem_filter.1 hm).1
    exact .inl ⟨f, hm, rfl⟩
  · refine Move.moves (Move.free p ?_ ?_ ?_)
    · intro e he
      simpa using ((TestQueue.mem_drop _ _ e).1 he).2
    · intro f hm
      simpa using (List.mem_filter.1 hm).2
    · simp [TestQueue.setLatch]

theorem State.cleared_queue (s : State) (p : PortNo) :
    (s.cleared p).queue = (s.queue.drop (fun e => decide (e.port = p))).setLatch p false := by
  have := (s.detachIf_frame p).1
  rw [← this]
  rfl

/-- A release leaves the latches served: the drain has run, or no entry has left (R5, R40). -/
theorem State.releasePort_work (s : State) (p : PortNo) : Work s (s.releasePort p) := by
  rw [State.releasePort_eq]
  split
  · refine ⟨(s.cleared_moves p).trans (State.drain_moves _), fun _ ht _ => ?_⟩
    exact State.drain_latchesServed _ ((s.cleared_moves p).keeps (fun _ _ => Move.tenancyInv) ht).latchClaimed
  · rename_i hn
    refine (s.cleared_moves p).work ?_
    rw [s.cleared_queue p, TestQueue.drop_of_none _ _ (by simpa using hn)]
    exact TestQueue.clearLatch_grows ..

theorem doRelease_event (c : Client) (port : Payload) (s : State) : Event s (doRelease c port s).2 := by
  unfold doRelease
  split
  · exact .refl s
  · exact (s.releasePort_work _).arbitrated

/-! ### What SET PROFILE stores is legal (R9 to R11) -/

theorem clamp_range (low high v : Nat) (h : low ≤ high) : low ≤ clamp low high v ∧ clamp low high v ≤ high := by
  unfold clamp
  omega

/-- The dead-zone check only lowers the pulse code (R11). -/
theorem deadZonePulse_le (period points pulse : Nat) : deadZonePulse period points pulse ≤ pulse := by
  induction pulse with
  | zero => exact Nat.le_refl _
  | succ n ih =>
    unfold deadZonePulse
    split
    · omega
    · exact Nat.le_refl _

/-- A pulse of 10 ns needs less than half of any legal trace (R11). -/
theorem deadZoneEnd_zero (period : Nat) : deadZoneEnd 0 period ≤ 8 := by
  have h1 : 1 ≤ 2 ^ period := Nat.one_le_two_pow
  have : (2 * pulseNs 0 + (5 * 2 ^ period - 1)) / (5 * 2 ^ period) ≤ 4 := by
    rw [show pulseNs 0 = 10 from rfl, Nat.div_le_iff_le_mul_add_pred (by omega)]
    omega
  unfold deadZoneEnd
  omega

/-- After the dead-zone check i0 lies below P / 2 (R11). -/
theorem deadZonePulse_fits (period points pulse : Nat) (h : 1024 ≤ points) :
    deadZoneEnd (deadZonePulse period points pulse) period < points / 2 := by
  induction pulse with
  | zero =>
    have := deadZoneEnd_zero period
    unfold deadZonePulse
    omega
  | succ n ih =>
    unfold deadZonePulse
    split
    · exact ih
    · omega

theorem legalPoints_mem (v : Nat) : legalPoints v ∈ [1024, 2048, 4096, 8192, 16384] := by
  unfold legalPoints
  (repeat' split) <;> decide

theorem legalSmoothing_mem (v : Nat) : legalSmoothing v ∈ [1, 2, 4, 8, 16, 32] := by
  unfold legalSmoothing
  (repeat' split) <;> decide

/-- What a legal profile is, field by field (R9). -/
theorem Profile.legal_iff (p : Profile) :
    p.legal = true ↔ (140000 ≤ p.groupIndex ∧ p.groupIndex ≤ 160000) ∧ p.period ≤ 5 ∧
      p.points ∈ [1024, 2048, 4096, 8192, 16384] ∧ p.pulse ≤ 6 ∧ (8 ≤ p.averages ∧ p.averages ≤ 16) ∧
      (1 ≤ p.floorMargin ∧ p.floorMargin ≤ 255) ∧ (4 ≤ p.stepThreshold ∧ p.stepThreshold ≤ 255) ∧
      (16 ≤ p.reflectionThreshold ∧ p.reflectionThreshold ≤ 1023) ∧ p.smoothing ∈ [1, 2, 4, 8, 16, 32] ∧
      (1 ≤ p.confirmLength ∧ p.confirmLength ≤ 64) ∧ p.bendMargin ≤ 5000 ∧
      (1 ≤ p.matchDistance ∧ p.matchDistance ≤ 10000) ∧ deadZoneEnd p.pulse p.period < p.points / 2 := by
  simp only [Profile.legal, Bool.and_eq_true, decide_eq_true_eq, List.contains_iff_mem, and_assoc]

/-- Every field a SET PROFILE stores is legal (R9). -/
theorem adjustProfile_legal (f : ProfileWords) : (adjustProfile f).legal = true := by
  have hp : 1024 ≤ legalPoints f.points.toNat := by
    unfold legalPoints
    (repeat' split) <;> decide
  have hpulse := (deadZonePulse_le (clamp 0 5 f.period.toNat) (legalPoints f.points.toNat)
    (clamp 0 6 f.pulse.toNat)).trans (clamp_range 0 6 f.pulse.toNat (by decide)).2
  have hfits := deadZonePulse_fits (clamp 0 5 f.period.toNat) (legalPoints f.points.toNat) (clamp 0 6 f.pulse.toNat) hp
  exact (Profile.legal_iff _).2 ⟨clamp_range 140000 160000 _ (by decide), (clamp_range 0 5 _ (by decide)).2,
    legalPoints_mem _, hpulse, clamp_range 8 16 _ (by decide), clamp_range 1 255 _ (by decide),
    clamp_range 4 255 _ (by decide), clamp_range 16 1023 _ (by decide), legalSmoothing_mem _,
    clamp_range 1 64 _ (by decide), (clamp_range 0 5000 _ (by decide)).2, clamp_range 1 10000 _ (by decide), hfits⟩

theorem doSetProfile_event (c : Client) (port : Payload) (f : ProfileWords) (s : State) :
    Event s (doSetProfile c port f s).2 := by
  unfold doSetProfile
  split
  · exact .refl s
  · rename_i p _
    exact (Move.record p { s.port p with profile := adjustProfile f } (fun _ => rfl) .inl .inl
      (.inr (adjustProfile_legal f))).recordEvent rfl

theorem doGetProfile_event (c : Client) (port : Payload) (s : State) : Event s (doGetProfile c port s).2 := by
  unfold doGetProfile
  split <;> exact .refl s

theorem doGetResult_event (c : Client) (port : Payload) (s : State) : Event s (doGetResult c port s).2 := by
  unfold doGetResult
  split
  · exact .refl s
  · rename_i p _
    exact (Move.record p { s.port p with unread := false } (fun _ => rfl) nofun .inl (.inl rfl)).recordEvent rfl

/-! ### The requests of the test queue (chapter 2) -/

/-- An entry is appended and its port's latch cleared if it is URGENT (R39). -/
theorem State.addClear_work (s : State) (c : Client) (p : PortNo) (k : Kind) (o : Origin)
    (claimed : (s.port p).claimant = some c) (room : s.queue.isFull = false) (may : s.queue.MayAdd c p k o) :
    Work s (s.setQueue ((s.queue.addEntry c p k o).clearLatchFor p k)) := by
  refine Moves.work ?_ ((s.queue.addEntry_grows c p k o).trans (TestQueue.clearLatchFor_grows ..))
  unfold TestQueue.clearLatchFor
  split
  · exact (Move.add c p k o claimed room may).moves.trans (Move.latch p false nofun).moves
  · exact (Move.add c p k o claimed room may).moves

/-- An upgrade, which clears the port's latch (R23, R39). -/
theorem State.upgradeClear_work (s : State) (p : PortNo) (h : s.queue.findQueued p .urgent = none) :
    Work s (s.setQueue ((s.queue.upgrade p).setLatch p false)) :=
  Moves.work (.trans (Move.upgrade p h).moves (Move.latch p false nofun).moves)
    ((s.queue.upgrade_grows p).trans (TestQueue.clearLatch_grows ..))

theorem State.scheduleNew_event (s : State) (c : Client) (p : PortNo) (k : Kind)
    (claimed : (s.port p).claimant = some c) (same : s.queue.findQueued p k = none)
    (urgent : k = .routine → s.queue.findQueued p .urgent = none)
    (routine : k = .urgent → s.queue.findQueued p .routine = none) : Event s (s.scheduleNew c p k).2 := by
  unfold State.scheduleNew
  split
  · exact .refl s
  · rename_i hfull
    split
    · exact .refl s
    · rename_i hshare
      exact (s.addClear_work c p k .request claimed (by simpa using hfull)
        ⟨same, urgent, routine, fun _ => Nat.lt_of_not_le hshare⟩).arbitrated

theorem State.scheduleKind_event (s : State) (c : Client) (p : PortNo) (k : Kind)
    (claimed : (s.port p).claimant = some c) : Event s (s.scheduleKind c p k).2 := by
  unfold State.scheduleKind
  split
  · exact .refl s
  · rename_i hk
    cases k with
    | routine =>
      dsimp only
      split
      · exact .refl s
      · rename_i hu
        exact s.scheduleNew_event c p _ claimed hk (fun _ => hu) nofun
    | urgent =>
      dsimp only
      split
      · exact (s.upgradeClear_work p hk).arbitrated
      · rename_i hr
        exact s.scheduleNew_event c p _ claimed hk nofun fun _ => hr
    | baseline b => exact s.scheduleNew_event c p _ claimed hk nofun nofun
    | confirm => exact s.scheduleNew_event c p _ claimed hk nofun nofun

theorem doSchedule_event (c : Client) (port kind band : Payload) (s : State) :
    Event s (doSchedule c port kind band s).2 := by
  unfold doSchedule
  split
  · exact .refl s
  · rename_i p hp
    split
    · exact .refl s
    · exact s.scheduleKind_event c p _ (ownedPort_ok s c port p hp).2

/-- A departure leaves the latches served: the drain has run, or no entry has left (R40). -/
theorem State.depart_work (s : State) (leaves : Entry → Bool) : Work s (s.depart leaves) := by
  refine ⟨s.depart_moves leaves, fun _ ht hl => ?_⟩
  unfold State.depart
  split
  · exact State.drain_latchesServed _ (ht.drop leaves).latchClaimed
  · exact hl

theorem State.cancelQueued_work (s : State) (e : Entry) (he : e ∈ s.queue.entries) : Work s (s.cancelQueued e) :=
  ((s.writeResult_moves e.port _ ⟨e, he, rfl⟩).workOfQueue rfl).trans (State.depart_work ..)

/-- Cancel pending makes no choice possible: the entry it is set on runs (R26). -/
theorem State.setCancelPending_event (s : State) : Event s s.setCancelPending := by
  refine ⟨(Move.setRun _).moves.work (TestQueue.setRun_grows ..), fun _ _ hc =>
    hc.congr (fun e he hr => ⟨?_, rfl⟩) rfl rfl rfl (fun _ => rfl) rfl⟩
  obtain ⟨x, hx, rfl⟩ := (s.queue.mem_setRun _ e).1 he
  have hn : x.run = none := by simpa using hr
  rwa [show x.run.map (fun ri : RunInfo => { ri with cancelPending := true }) = x.run by rw [hn]; rfl]

theorem State.cancelRunning_event (s : State) (ri : RunInfo) : Event s (s.cancelRunning ri).2 := by
  unfold State.cancelRunning
  split
  · exact .refl s
  · split
    case h_1 => exact .refl s
    case h_2 => exact (s.clearMark_testMoves.trans (State.cancelTest_testMoves _)).work.arbitrated
    all_goals exact s.setCancelPending_event

theorem doCancel_event (c : Client) (ticket : Payload) (s : State) : Event s (doCancel c ticket s).2 := by
  unfold doCancel
  split
  · exact .refl s
  · rename_i e he
    split
    · split
      · exact (s.cancelQueued_work e (List.mem_of_find?_eq_some he)).arbitrated
      · exact s.cancelRunning_event _
    · exact .refl s

/-! ### The office, the selector and the fault table (chapters 3, 4, 8) -/

theorem doSetClock_event (seconds : Payload) (s : State) : Event s (doSetClock seconds s).2 := by
  unfold doSetClock
  split
  · exact .refl s
  · rename_i h
    refine Work.arbitrated (Moves.workOfQueue (Move.moves
      (Move.office { s.office with clock := some seconds.toNat } fun ho => ⟨?_, ho.2⟩)) rfl)
    rintro v ⟨⟩
    exact Nat.lt_of_not_le h

theorem doSetWindow_event (c : Client) (start stop : Payload) (s : State) : Event s (doSetWindow c start stop s).2 := by
  unfold doSetWindow
  split
  · exact .refl s
  · rename_i h
    obtain ⟨h1, h2⟩ := not_or.1 h
    refine Work.arbitrated (Moves.workOfQueue (Move.moves (Move.office { s.office with
      windows := s.office.windows.put c { start := start.toNat, stop := stop.toNat } } fun ho => ⟨ho.1, fun d => ?_⟩)) rfl)
    simp only [State.setOffice_office, Tab.at_put]
    split
    · exact ⟨Nat.lt_of_not_le h1, Nat.lt_of_not_le h2⟩
    · exact ho.2 d

theorem doHome_event (s : State) : Event s (doHome s).2 := by
  unfold doHome
  split
  · exact ((TestMoves.sel s (s.sel.beginHoming none)).trans (State.markRestart_testMoves _)).work.arbitrated
  · exact .refl s

theorem doGetTrace_event (c : Client) (source port band first count : Payload) (s : State) :
    Event s (doGetTrace c source port band first count s).2 := by
  unfold doGetTrace
  (repeat' split) <;> exact .refl s

theorem doGetFindings_event (c : Client) (port first : Payload) (s : State) :
    Event s (doGetFindings c port first s).2 := by
  unfold doGetFindings
  split
  · exact .refl s
  · rename_i p _
    split
    · exact .refl s
    · exact (Move.record p { s.port p with unseen := false } (fun _ => rfl) .inl nofun (.inl rfl)).recordEvent rfl

theorem doAckFinding_event (c : Client) (port entry : Payload) (s : State) :
    Event s (doAckFinding c port entry s).2 := by
  unfold doAckFinding
  split
  · exact .refl s
  · split
    · exact .refl s
    · split
      · exact .refl s
      · rename_i e he
        have he : e ∈ s.faults := List.mem_of_find?_eq_some he
        refine Moves.event (Move.moves (Move.faults _ (fun h => FaultForm.replaceEntry h _ (h.2.2.2 e he)) fun f hf =>
          .inl ?_)) rfl rfl rfl rfl rfl rfl rfl
        rcases mem_replaceEntry hf with rfl | hf
        · exact ⟨e, he, rfl⟩
        · exact ⟨f, hf, rfl⟩

theorem doDeleteFinding_event (c : Client) (port entry : Payload) (s : State) :
    Event s (doDeleteFinding c port entry s).2 := by
  unfold doDeleteFinding
  split
  · exact .refl s
  · split
    · exact .refl s
    · split
      · exact .refl s
      · rename_i e he
        split
        · exact Moves.event (Move.moves (Move.faults _
            (fun h => FaultForm.sublist h (removeEntry_sublist s.faults e.id)) fun f hf =>
            .inl ⟨f, (removeEntry_sublist s.faults e.id).subset hf, rfl⟩)) rfl rfl rfl rfl rfl rfl rfl
        · exact .refl s

/-! ### The store, the hold and the highway (chapters 9 to 11) -/

theorem doBaselineInfo_event (c : Client) (port : Payload) (s : State) : Event s (doBaselineInfo c port s).2 := by
  unfold doBaselineInfo
  split <;> exact .refl s

theorem State.eraseSlot_event (s : State) (slot : Fin 64) : Event s (s.eraseSlot slot).2 := by
  unfold State.eraseSlot
  split
  · exact .refl s
  · split
    · exact .refl s
    · exact ((Moves.store ..).workOfQueue rfl).arbitrated

theorem doEraseBaseline_event (c : Client) (port band : Payload) (s : State) :
    Event s (doEraseBaseline c port band s).2 := by
  unfold doEraseBaseline
  split
  · exact .refl s
  · split
    · exact .refl s
    · rename_i b _
      exact s.eraseSlot_event _

/-- A client's hold leaves no choice waiting: no choice is taken under a hold (R30, R157). -/
theorem State.joinHold_event (s : State) (c : Client) : Event s (s.joinHold c) := by
  refine ⟨(s.joinHold_testMoves c).work, fun _ _ hc => ?_⟩
  by_cases hm : s.hold.members.at c = true
  · unfold State.joinHold
    rwa [if_pos hm]
  · refine choiceInv_of_hold (c := c) ?_
    unfold State.joinHold
    rw [if_neg hm]
    dsimp only
    (repeat' split) <;> simp [State.enterHeld]

theorem State.resumeFrom_event (s : State) (c : Client) : Event s (s.resumeFrom c) := by
  unfold State.resumeFrom
  split
  · exact (s.leaveHold_testMoves c).work.arbitrated
  · exact .refl s

/-- The CANCELLED results of a client's entries change the ports alone (R177). -/
theorem State.cancelResults_eq (s : State) (c : Client) : s.cancelResults c = s.setPorts (s.cancelResults c).ports := by
  have h : ∀ (l : List Entry) (t : State),
      l.foldl (fun t e => t.writeResult e.port (queuedResult e .cancelled s.office.clock)) t =
        t.setPorts (l.foldl (fun t e => t.writeResult e.port (queuedResult e .cancelled s.office.clock)) t).ports := by
    intro l
    induction l with
    | nil => exact fun _ => rfl
    | cons e l ih =>
      intro t
      rw [List.foldl_cons, ih]
      rfl
  exact h _ s

theorem State.cancelResults_queue (s : State) (c : Client) : (s.cancelResults c).queue = s.queue := by
  rw [State.cancelResults_eq]
  rfl

theorem State.cancelResults_moves (s : State) (c : Client) : Moves s (s.cancelResults c) := by
  have h : ∀ (l : List Entry) (t : State), (∀ e ∈ l, e ∈ t.queue.entries) →
      Moves t (l.foldl (fun t e => t.writeResult e.port (queuedResult e .cancelled s.office.clock)) t) := by
    intro l
    induction l with
    | nil => exact fun t _ => .refl t
    | cons e l ih =>
      intro t ht
      refine (t.writeResult_moves e.port _ ⟨e, ht e List.mem_cons_self, rfl⟩).trans (ih _ fun x hx => ?_)
      exact ht x (List.mem_cons_of_mem _ hx)
  exact h _ s fun e he => (List.mem_filter.1 he).1

theorem State.cancelAll_moves (s : State) (c : Client) : Moves s (s.cancelAll c) := by
  have h := (s.cancelResults c).drop_moves (fun e => e.waitsFor c)
  rw [State.cancelResults_queue] at h
  exact (s.cancelResults_moves c).trans h

theorem State.drainAfterReset_moves (s t : State) (c : Client) : Moves t (s.drainAfterReset t c) := by
  unfold State.drainAfterReset
  split
  · exact t.drain_moves
  · exact .refl t

/-- With no QUEUED entry of the client none leaves (R42). -/
theorem State.cancelAll_queue_of_none (s : State) (c : Client)
    (h : s.queue.entries.any (fun e => e.waitsFor c) = false) : (s.cancelAll c).queue = s.queue :=
  TestQueue.drop_of_none s.queue _ (by simpa using h)

/-- QUEUED entries that leave leave a RUNNING one (R42). -/
theorem State.cancelAll_running (s : State) (c : Client) (h : (s.cancelAll c).queue.running = none) :
    s.queue.running = none := by
  rw [TestQueue.running_eq_none] at h ⊢
  intro e he
  by_contra hne
  exact hne (h e ((s.queue.mem_drop _ e).2 ⟨he, by simp [Entry.waitsFor, hne]⟩))

/-- A LINK RESET leaves the latches served: no entry has left, or the drain has run over the queue that all have left,
in the end of the RUNNING entry's test or after it (R40, R177). -/
theorem State.linkReset_work (s : State) (c : Client) :
    Work s (s.drainAfterReset ((s.cancelAll c).leaveHold c) c) := by
  have hleave := (s.cancelAll c).leaveHold_testMoves c
  refine ⟨(s.cancelAll_moves c).trans (hleave.moves.trans (State.drainAfterReset_moves ..)), fun _ ht hl => ?_⟩
  have htc := (s.cancelAll_moves c).keeps (fun _ _ => Move.tenancyInv) ht
  have htl := hleave.moves.keeps (fun _ _ => Move.tenancyInv) htc
  unfold State.drainAfterReset
  split
  · exact State.drain_latchesServed _ htl.latchClaimed
  · rename_i hskip
    cases hany : s.queue.entries.any (fun e => e.waitsFor c) with
    | false =>
      refine hleave.latchesServed htc ?_
      rwa [s.cancelAll_queue_of_none c hany]
    | true =>
      obtain ⟨hrun, hended⟩ := not_or.1 fun h => hskip ⟨hany, h⟩
      exact hleave.latchesServed_of_none htc (fun hn => absurd (s.cancelAll_running c hn) hrun) (not_not.1 hended)

theorem doLinkReset_event (c : Client) (s : State) : Event s (doLinkReset c s).2 :=
  (Event.setLink s c (s.link c).clearFlags).trans (State.linkReset_work (s.setLink c (s.link c).clearFlags) c).arbitrated

/-- Every request's effect on the blocks is an event. -/
theorem handle_event (c : Client) (r : Request) (s : State) : Event s (handle c r s).2 := by
  cases r
  case claim => exact doClaim_event ..
  case release => exact doRelease_event ..
  case setProfile => exact doSetProfile_event ..
  case getProfile => exact doGetProfile_event ..
  case getResult => exact doGetResult_event ..
  case schedule => exact doSchedule_event ..
  case cancel => exact doCancel_event ..
  case listQueue => exact .refl s
  case setWindow => exact doSetWindow_event ..
  case setClock => exact doSetClock_event ..
  case home => exact doHome_event ..
  case getTrace => exact doGetTrace_event ..
  case getFindings => exact doGetFindings_event ..
  case ackFinding => exact doAckFinding_event ..
  case deleteFinding => exact doDeleteFinding_event ..
  case baselineInfo => exact doBaselineInfo_event ..
  case eraseBaseline => exact doEraseBaseline_event ..
  case hold => exact s.joinHold_event c
  case resume => exact s.resumeFrom_event c
  case status => exact .setLink ..
  case linkReset => exact doLinkReset_event ..

/-! ### The events of the blocks -/

/-- The state after a CLOCK_ADVANCE (R43). -/
def State.tick (s : State) : State :=
  match s.office.clock with
  | none => s
  | some v =>
    let t := s.setOffice { s.office with clock := some (nextSecond v) }
    if nextSecond v % 60 = 0 then t.arbitrate else t

theorem nextSecond_lt (v : Nat) : nextSecond v < Config.secondsPerDay := by
  unfold nextSecond Config.secondsPerDay
  split <;> omega

theorem State.tick_event (s : State) : Event s s.tick := by
  unfold State.tick
  split
  · exact .refl s
  · rename_i v hv
    have h : Work s (s.setOffice { s.office with clock := some (nextSecond v) }) := by
      refine Moves.workOfQueue (Move.moves (Move.office _ fun ho => ⟨?_, ho.2⟩)) rfl
      rintro w ⟨⟩
      exact nextSecond_lt v
    dsimp only
    split
    · exact h.arbitrated
    · rename_i hmin
      refine ⟨h, fun _ _ hc => hc.congr (fun e he _ => ⟨he, rfl⟩) rfl rfl rfl (fun c => ?_) rfl⟩
      simp only [State.setOffice_office, Office.isOpen, hv]
      exact Window.isOpen_nextSecond _ v hmin

/-- The state after a LOS_EDGE (R36). -/
def State.losEdge (s : State) (p : PortNo) : State :=
  match (s.port p).claimant with
  | none => s
  | some c => if (s.port p).profile.losEnable then s.takeLos p c else s

theorem TestQueue.newestRoutine_spec {q : TestQueue} {e : Entry} (h : q.newestRoutine = some e) :
    e ∈ q.entries ∧ e.run = none ∧ e.kind = .routine := by
  have hp := List.find?_some h
  have hm := List.mem_of_find?_eq_some h
  simp only [Bool.and_eq_true, decide_eq_true_eq] at hp
  exact ⟨List.mem_reverse.1 hm, hp.1, hp.2⟩

theorem TestQueue.drop_findQueued_none {q : TestQueue} {p : PortNo} {k : Kind} (h : q.findQueued p k = none)
    (leaves : Entry → Bool) : (q.drop leaves).findQueued p k = none := by
  rw [TestQueue.findQueued_eq_none] at h ⊢
  exact fun e he => h e ((q.mem_drop leaves e).1 he).1

/-- At most one entry has a ticket: what leaves by its ticket leaves the queue one shorter at most (R21). -/
theorem TestQueue.Form.length_drop_ticket {q : TestQueue} (h : q.Form) (n : Nat) :
    q.entries.length ≤ (q.drop (fun x => decide (x.run = none) && decide (x.ticket = n))).entries.length + 1 := by
  have hnd := (((q.entries.filter_sublist (p := fun x => decide (x.run = none) && decide (x.ticket = n))).map
    (fun e => e.ticket)).nodup h.2.1)
  have hsub : (q.entries.filter (fun x => decide (x.run = none) && decide (x.ticket = n))).map (fun e => e.ticket) ⊆
      [n] := by
    intro t ht
    obtain ⟨e, he, rfl⟩ := List.mem_map.1 ht
    simpa using (Bool.and_eq_true_iff.1 (List.mem_filter.1 he).2).2
  have hle := (hnd.subperm hsub).length_le
  have hsum := List.length_eq_length_filter_add (l := q.entries)
    (fun x => decide (x.run = none) && decide (x.ticket = n))
  simp only [List.length_map, List.length_singleton] at hle
  simp only [TestQueue.drop]
  omega

/-- An edge sets the latch of a claimed port when it is served at once (R37). -/
theorem State.setLatch_event (s : State) (p : PortNo) (hc : (s.port p).claimant.isSome = true)
    (hp : s.queue.urgentRunning p = true ∨ s.queue.isFull = true) : Event s (s.setQueue (s.queue.setLatch p true)) :=
  ⟨⟨(Move.latch p true fun _ => hc).moves, fun _ _ hl => hl.setLatch p hp⟩, fun _ _ h =>
    h.congr (fun _ he _ => ⟨he, rfl⟩) rfl rfl rfl (fun _ => rfl) rfl⟩

/-- An eviction makes room for one entry, and leaves the queue as full as it was (R38). -/
theorem State.evictFor_work (s : State) (p : PortNo) (c : Client) (e : Entry) (hc : (s.port p).claimant = some c)
    (hu : s.queue.findQueued p .urgent = none) (hr : s.queue.findQueued p .routine = none)
    (hfull : s.queue.isFull = true) (he : s.queue.newestRoutine = some e) : Work s ((s.evict e).admitLos p c) := by
  obtain ⟨hmem, hrun, -⟩ := TestQueue.newestRoutine_spec he
  have hclaim : ((s.writeResult e.port (queuedResult e .evicted s.office.clock)).port p).claimant = some c := by
    rw [State.writeResult, State.setPort_port]
    split
    · rename_i hp
      exact (congrArg (fun q => (s.port q).claimant) hp).trans hc
    · exact hc
  refine ⟨(s.writeResult_moves e.port _ ⟨e, hmem, rfl⟩).trans (.trans (Move.moves (Move.replace _ c p .urgent .los hclaim
    ⟨e, hmem, by simp [hrun]⟩ ⟨TestQueue.drop_findQueued_none hu _, nofun, fun _ =>
      TestQueue.drop_findQueued_none hr _, nofun⟩)) (Move.latch p false nofun).moves), fun hq _ _ r _ => .inr ?_⟩
  have hlen := ((queueInv_iff s).1 hq).1.length_drop_ticket e.ticket
  rw [TestQueue.isFull_iff] at hfull ⊢
  refine (hfull.trans hlen).trans ?_
  simp [State.admitLos, State.evict]

theorem State.takeLos_event (s : State) (p : PortNo) (c : Client) (hc : (s.port p).claimant = some c) :
    Event s (s.takeLos p c) := by
  have hsome : (s.port p).claimant.isSome = true := by rw [hc]; rfl
  unfold State.takeLos
  split
  · exact .refl s
  rename_i hu
  have hu : s.queue.findQueued p .urgent = none := by simpa using hu
  split
  · exact (s.upgradeClear_work p hu).arbitrated
  rename_i hr
  have hr : s.queue.findQueued p .routine = none := by simpa using hr
  split
  · exact s.setLatch_event p hsome (.inl ‹_›)
  split
  · split
    · exact (s.evictFor_work p c _ hc hu hr ‹_› ‹_›).arbitrated
    · exact s.setLatch_event p hsome (.inr ‹_›)
  · rename_i hfull
    exact (s.addClear_work c p .urgent .los hc (by simpa using hfull) ⟨hu, nofun, fun _ => hr, nofun⟩).arbitrated

theorem State.losEdge_event (s : State) (p : PortNo) : Event s (s.losEdge p) := by
  unfold State.losEdge
  split
  · exact .refl s
  · split
    · exact s.takeLos_event p _ ‹_›
    · exact .refl s

theorem EngState.shooting_ne_idle {x : EngState} (h : x.shooting = true) : x ≠ .idle := by
  rintro rfl
  cases h

theorem State.endShot_event (s : State) (x : Samples) : Event s (s.endShot x) := by
  unfold State.endShot
  split
  · rename_i sn b _ _
    split
    · rename_i hs
      dsimp only
      split
      · have hadd : TestMoves s (s.setEng { s.eng.addShot (shotSamples x sn.points) with counter := 0 }) :=
          .eng _ _ fun hi => by simpa using hi
        exact (hadd.trans (State.boundary_testMoves ..)).work.arbitrated
      · refine ⟨(TestMoves.eng _ _ fun hi => ?_).work, fun _ _ _ => choiceInv_of_busy ?_⟩
        · simpa [Engine.startShot] using hi
        · simpa [Engine.startShot] using EngState.shooting_ne_idle hs.1
    · exact .refl s
  · exact .refl s

/-- The fold of a test's report touches the table and its port's unseen-findings flag (R129, R137). -/
theorem State.foldReport_moves (s : State) (sn : Snapshot) (e : Entry) (r : Report) (he : e ∈ s.queue.entries)
    (hr : ∀ c ∈ r.reclass, missLimit c.2 = 3) : Moves s (s.foldReport sn e r).1 := by
  have hf : Moves s (s.setFaults (foldTest s.faults e.port (s.port e.port).profile.matchDistance sn.spacing e.ticket
      r).table) := by
    refine Move.moves (Move.faults _ (fun h => foldTest_form _ _ _ _ _ r hr h) ?_)
    exact foldTest_ports (A := fun p => (∃ g ∈ s.faults, g.port = p) ∨ ∃ e ∈ s.queue.entries, e.port = p) _ e.port
      (.inr ⟨e, he, rfl⟩) _ _ _ r fun g hg => .inl ⟨g, hg, rfl⟩
  unfold State.foldReport
  dsimp only
  split
  · exact hf.trans (Move.moves (Move.record e.port _ (fun _ => rfl) .inl (fun _ => .inr ⟨e, he, rfl⟩) (.inl rfl)))
  · exact hf

theorem State.foldReport_queue (s : State) (sn : Snapshot) (e : Entry) (r : Report) :
    (s.foldReport sn e r).1.queue = s.queue := by
  unfold State.foldReport
  dsimp only
  split <;> rfl

theorem State.completeTest_work (s : State) (sn : Snapshot) (e : Entry) (he : e ∈ s.queue.entries) :
    Work s (s.completeTest sn e) := by
  have hend : ∀ (t : State) (x : Option LastPair) st ca r f,
      Work t ((t.setEng { t.eng with lastPair := x }).endTest st ca r f) := fun t x st ca r f =>
    ((TestMoves.eng t { t.eng with lastPair := x } id).trans (TestMove.endTest ..).testMoves).work
  unfold State.completeTest
  dsimp only
  split
  · split
    · exact ((Moves.store ..).workOfQueue rfl).trans (hend ..)
    · exact hend ..
  · exact ((s.foldReport_moves sn e _ he (analyse_reclass _ _ _ _ _ _)).workOfQueue (s.foldReport_queue ..)).trans
      (hend ..)

theorem State.analysisExpires_event (s : State) : Event s s.analysisExpires := by
  unfold State.analysisExpires
  split
  · split
    · rename_i he _
      exact (s.completeTest_work _ _ (TestQueue.running_eq_some he).1).arbitrated
    · exact s.cancelTest_testMoves.work.arbitrated
  · exact .refl s

/-- The state after a PROGRAMMING_END (R151). -/
def State.programmed (s : State) (r : ReadBack) : State :=
  match s.store.writingHead with
  | none => s
  | some e =>
    let t := s.setStore (s.store.endProgramming (s.store.verifies e.op r))
    (if s.store.verifies e.op r then t else t.raiseStore e.slot).arbitrate

theorem State.raiseStore_event (s : State) (slot : Fin 64) : Event s (s.raiseStore slot) := by
  unfold State.raiseStore
  split
  · exact .setLink ..
  · exact .refl _

theorem State.programmed_event (s : State) (r : ReadBack) : Event s (s.programmed r) := by
  unfold State.programmed
  split
  · exact .refl s
  · rename_i e _
    refine Work.arbitrated (.trans ((Moves.store s (s.store.endProgramming (s.store.verifies e.op r))).workOfQueue rfl) ?_)
    split
    · exact .refl _
    · exact (State.raiseStore_event ..).toWork

/-- The state after a HOLD_TIMER_EXPIRY (R162). -/
def State.holdExpired (s : State) : State :=
  if s.hold.timer.isSome then (s.setHold { s.hold with timer := none }).markRestart else s

theorem State.holdExpired_event (s : State) : Event s s.holdExpired := by
  unfold State.holdExpired
  split
  · refine ((TestMoves.hold s { s.hold with timer := none }).trans (State.markRestart_testMoves _)).moves.event
      (by simp) (by simp) (by simp) (by simp) ?_ (by simp) (by simp)
    unfold State.markRestart
    split <;> rfl
  · exact .refl s

/-! ### What every event keeps -/

/-- `P` is kept by every event of the block: a change of the highway or of the waiting commands, power-on, a request's
effect, and the events of the clock, the ports, the selector, the engine, the store and the hold timer. -/
structure KeptByEvents (P : State → Prop) : Prop where
  hw : ∀ s x, P s → P (s.setHw x)
  pending : ∀ s x, P s → P (s.setPending x)
  powerOn : ∀ s, P s → P s.powerOn
  request : ∀ c r s, P s → P (handle c r s).2
  tick : ∀ s, P s → P s.tick
  losEdge : ∀ s p, P s → P (s.losEdge p)
  selector : ∀ s x, P s → P (s.selEvent x).arbitrate
  shot : ∀ s x, P s → P (s.endShot x)
  analysis : ∀ s, P s → P s.analysisExpires
  programmed : ∀ s r, P s → P (s.programmed r)
  holdExpired : ∀ s, P s → P s.holdExpired

/-- What every event and power-on keep, a step keeps. -/
theorem KeptByEvents.of_event {P : State → Prop} (hP : ∀ s t, Event s t → P s → P t) (hon : ∀ s : State, P s.powerOn) :
    KeptByEvents P where
  hw s x := hP _ _ (.setHw s x)
  pending s x := hP _ _ (Moves.event (s := s) (t := s.setPending x) (.quiet rfl rfl rfl rfl .inl)
    rfl rfl rfl rfl rfl rfl rfl)
  powerOn s _ := hon s
  request c r s := hP _ _ (handle_event c r s)
  tick s := hP _ _ s.tick_event
  losEdge s p := hP _ _ (s.losEdge_event p)
  selector s x := hP _ _ (s.selEvent_testMoves x).work.arbitrated
  shot s x := hP _ _ (s.endShot_event x)
  analysis s := hP _ _ s.analysisExpires_event
  programmed s r := hP _ _ (s.programmed_event r)
  holdExpired s := hP _ _ s.holdExpired_event

/-- What every small change and power-on keep, a step keeps. -/
theorem KeptByEvents.of_moves {P : State → Prop} (hP : ∀ s t, Move s t → P s → P t) (hon : ∀ s : State, P s.powerOn) :
    KeptByEvents P := .of_event (fun _ _ h => h.moves.keeps hP) hon

section
variable {P : State → Prop} (h : KeptByEvents P)
include h

theorem KeptByEvents.setLink (s : State) (c : Client) (l : Link) (hs : P s) : P (s.setLink c l) := h.hw _ _ hs

theorem KeptByEvents.deliver (s : State) (c : Client) (tag : Tag) (r : Request) (hs : P s) : P (s.deliver c tag r) := by
  unfold State.deliver
  split
  · exact h.setLink _ _ _ hs
  · exact h.setLink _ _ _ (h.request c r s hs)

theorem KeptByEvents.deliverMessage (s : State) (c : Client) (ws : List Word) (hs : P s) : P (s.deliverMessage c ws) := by
  unfold State.deliverMessage
  split
  · exact hs
  · split
    · exact h.deliver _ _ _ _ hs
    · split <;> exact h.setLink _ _ _ hs

theorem KeptByEvents.messageEnd (s : State) (c : Client) (single : Bool) (hs : P s) : P (s.messageEnd c single) :=
  h.setLink _ _ _ (h.hw _ _ hs)

theorem KeptByEvents.takeRequest (s : State) (c : Client) (tag : Tag) (r : Request) (hs : P s) :
    P (s.takeRequest c tag r) := by
  unfold State.takeRequest
  split
  · exact h.deliver _ _ _ _ (h.messageEnd _ _ _ hs)
  · exact hs

theorem KeptByEvents.takeMessage (s : State) (c : Client) (ws : List Word) (hs : P s) : P (s.takeMessage c ws) := by
  unfold State.takeMessage
  split
  · exact h.deliverMessage _ _ _ (h.messageEnd _ _ _ hs)
  · exact hs

theorem KeptByEvents.takeWord (s : State) (c : Client) (w : Word) (hs : P s) : P (s.takeWord c w) := by
  unfold State.takeWord
  split
  · dsimp only
    split
    · exact h.setLink _ _ _ (h.hw _ _ hs)
    · exact h.deliverMessage _ _ _ (h.setLink _ _ _ (h.hw _ _ hs))
  · exact hs

theorem KeptByEvents.sendWord (s : State) (c : Client) (hs : P s) : P (s.sendWord c) := by
  unfold State.sendWord
  dsimp only
  split
  · exact h.hw _ _ (h.setLink _ _ _ hs)
  · exact h.hw _ _ hs

theorem KeptByEvents.resync (s : State) (bit : Fin 128) (hs : P s) : P (s.resync bit) := by
  unfold State.resync
  split
  · exact hs
  · refine h.hw _ _ ?_
    split
    · exact hs
    · exact h.setLink _ _ _ (h.hw _ _ hs)

/-- A command keeps what every event keeps. -/
theorem KeptByEvents.exec {i : Instr} {s t : State} (ht : exec i s = .next t) (hs : P s) : P t := by
  have hnext : ∀ u, Host.Outcome.next u = Host.Outcome.next (φ := Fault) (ρ := Refusal) t → P u → P t := by
    rintro u ⟨⟩ hu
    exact hu
  cases i
  case powerOn => exact hnext _ ht (h.powerOn s hs)
  case clockAdvance => exact hnext _ ht (h.tick s hs)
  case losEdge p => exact hnext _ ht (h.losEdge s p hs)
  case encoderCount | encoderError | indexEdge | moveTimeout | settleExpiry | homingTimeout =>
    exact hnext _ ht (h.selector s _ hs)
  case shot x => exact hnext _ ht (h.shot s x hs)
  case darkBlockBoundary x | laserBlockBoundary x | drainedBlockBoundary x =>
    refine hnext _ ht ?_
    split
    · exact h.shot s x hs
    · exact hs
  case analysisEnd => exact hnext _ ht (h.analysis s hs)
  case programmingEnd r => exact hnext _ ht (h.programmed s r hs)
  case holdTimerExpiry => exact hnext _ ht (h.holdExpired s hs)
  case inboundWord c w => exact hnext _ ht (h.takeWord s c w hs)
  case malformed c ws | overrun c ws => exact hnext _ ht (h.takeMessage s c ws hs)
  case outboundSlot c =>
    refine hnext _ ht ?_
    split
    · exact h.sendWord _ _ (h.hw _ _ hs)
    · split
      · exact h.sendWord _ _ (h.hw _ _ (h.hw _ _ hs))
      · exact hs
    · exact hs
    · exact hs
  case frameSync bit =>
    refine hnext _ ht ?_
    split
    · exact h.resync s bit hs
    · exact h.resync s bit hs
    · exact h.hw _ _ hs
    · exact hs
  case highwayLoss =>
    refine hnext _ ht ?_
    split
    · exact hs
    all_goals exact h.hw _ _ hs
  case highwayReturn | frameAlignment =>
    refine hnext _ ht ?_
    split
    · exact h.hw _ _ hs
    all_goals exact hs
  all_goals exact hnext _ ht (h.takeRequest s _ _ _ hs)

/-- A step keeps what every event keeps. -/
theorem KeptByEvents.step {s t : State} (ht : step s = .next t) (hs : P s) : P t := by
  unfold Machine.step at ht
  split at ht
  · cases ht
    exact hs
  · exact h.exec ht (h.pending _ _ hs)

end

end Sys2Proof.Machine
end

section
/-! SUPPORT. The state after reset and after power-on meets the invariants; the fault table, the clock and the
profiles keep theirs at every step. -/

namespace Sys2Proof.Machine

/-! ### Power-on (R74) -/

theorem queueInv_of_empty {s : State} (h : s.queue = State.reset.queue) : QueueInv s := by
  rw [queueInv_iff, h]
  exact ⟨⟨by decide, List.nodup_nil, List.forall_mem_nil _, List.forall_mem_nil _⟩, fun _ => rfl⟩

theorem tenancyInv_of_reset {s : State} (hq : s.queue = State.reset.queue) (hp : s.ports = State.reset.ports)
    (hf : s.faults = []) : TenancyInv s := by
  refine ⟨by rw [hq]; exact List.forall_mem_nil _, by rw [hf]; exact List.forall_mem_nil _, fun p h => ?_⟩
  simp [State.port, hp, hq, State.reset, PortRecord.free] at h

theorem waitingInv_of_empty {s : State} (h : s.queue = State.reset.queue) : WaitingInv s := by
  refine ⟨by rw [h]; exact List.forall_mem_nil _, by rw [h]; exact fun _ => Nat.zero_le _, fun p hp => ?_⟩
  simp [h, State.reset] at hp

theorem choiceInv_of_empty {s : State} (h : s.queue = State.reset.queue) : ChoiceInv s := by
  intro _
  rw [h]
  exact List.forall_mem_nil _

theorem officeInv_of_reset {s : State} (h : s.office = State.reset.office) : OfficeInv s := by
  refine ⟨by rw [h]; exact nofun, fun c => ?_⟩
  simp [h, State.reset, Config.minutesPerDay]

theorem profilesInv_of_reset {s : State} (h : s.ports = State.reset.ports) : ProfilesInv s := by
  intro p
  rw [State.port, h, show State.reset.ports.at p = PortRecord.free from Tab.at_all ..]
  exact Profile.default_legal

theorem faultsInv_of_empty {s : State} (h : s.faults = []) : FaultsInv s := by
  unfold FaultsInv
  rw [h]
  exact ⟨by decide, List.nodup_nil, List.forall_mem_nil _, List.forall_mem_nil _⟩

/-! ### What every event keeps -/

theorem queueInv_kept : KeptByEvents QueueInv :=
  .of_moves (fun _ _ => Move.queueInv) fun _ => queueInv_of_empty rfl

theorem tenancyInv_kept : KeptByEvents TenancyInv :=
  .of_moves (fun _ _ => Move.tenancyInv) fun _ => tenancyInv_of_reset rfl rfl rfl

theorem faultsInv_kept : KeptByEvents FaultsInv :=
  .of_moves (fun _ _ => Move.faultsInv) fun _ => faultsInv_of_empty rfl

theorem officeInv_kept : KeptByEvents OfficeInv :=
  .of_moves (fun _ _ => Move.officeInv) fun _ => officeInv_of_reset rfl

theorem profilesInv_kept : KeptByEvents ProfilesInv :=
  .of_moves (fun _ _ => Move.profilesInv) fun _ => profilesInv_of_reset rfl

/-- Every event keeps the entries that wait and the latches, beside the queue's form and the tenancy (R23, R24, R39). -/
theorem waitingInv_kept : KeptByEvents fun s => QueueInv s ∧ TenancyInv s ∧ WaitingInv s := by
  refine .of_event (fun s t h hs => ?_) fun _ =>
    ⟨queueInv_of_empty rfl, tenancyInv_of_reset rfl rfl rfl, waitingInv_of_empty rfl⟩
  obtain ⟨hq, ht, hw⟩ := hs
  have hqt := h.moves.keeps (fun _ _ => Move.queueInv) hq
  obtain ⟨hwaits, hlatches⟩ := (waitingInv_iff s ((queueInv_iff s).1 hq).1).1 hw
  exact ⟨hqt, h.moves.keeps (fun _ _ => Move.tenancyInv) ht, (waitingInv_iff t ((queueInv_iff t).1 hqt).1).2
    ⟨h.moves.keeps (P := fun s => s.queue.Waits) (fun _ _ => Move.waits) hwaits, h.latches hq ht hlatches⟩⟩

/-- Every event leaves no choice waiting, beside the queue's form and the tenancy (R30). -/
theorem choiceInv_kept : KeptByEvents fun s => QueueInv s ∧ TenancyInv s ∧ ChoiceInv s :=
  .of_event (fun _ _ h hs => ⟨h.moves.keeps (fun _ _ => Move.queueInv) hs.1,
    h.moves.keeps (fun _ _ => Move.tenancyInv) hs.2.1, h.choice hs.1 hs.2.1 hs.2.2⟩)
    fun _ => ⟨queueInv_of_empty rfl, tenancyInv_of_reset rfl rfl rfl, choiceInv_of_empty rfl⟩

/-! ### Reset -/

theorem storeInv_reset : StoreInv State.reset := ⟨nofun, nofun, List.nodup_nil⟩

theorem occupancyInv_reset : OccupancyInv State.reset := by
  have hfree : ∀ i, State.reset.store.buffers.at i ≠ .reserved := by decide
  exact ⟨by decide, fun i _ hi => absurd hi (hfree i), fun _ => hfree⟩

theorem lightInv_reset : LightInv State.reset := ⟨nofun, nofun⟩

theorem holdInv_reset : HoldInv State.reset := by
  rintro (h | h) <;> cases h

end Sys2Proof.Machine

open Sys2Proof
open Sys2Proof.Machine

/-- Settles O56: a step is an event or power-on, and an event is a chain of small changes that keeps the latches served
and leaves no choice waiting. -/
theorem everyStepKeepsQueueAndTenancy : Obligations.EveryStepKeepsQueueAndTenancy := by
  intro s t h
  refine ⟨queueInv_kept.step h, tenancyInv_kept.step h, fun hq ht hw => (waitingInv_kept.step h ⟨hq, ht, hw⟩).2.2,
    State.arbitrate_of_choiceInv, fun hq ht _ hc => ?_⟩
  have hct := (choiceInv_kept.step h ⟨hq, ht, hc⟩).2.2
  exact ⟨hct, State.arbitrate_of_choiceInv hct⟩

/-- Settles O59: every small change keeps each of the three, and a step is a chain of small changes or power-on. -/
theorem everyStepKeepsFaultsClockAndProfiles : Obligations.EveryStepKeepsFaultsClockAndProfiles := fun _ _ h =>
  ⟨faultsInv_kept.step h, officeInv_kept.step h, profilesInv_kept.step h⟩

/-- Settles O60, one invariant after the other. -/
theorem resetMeetsTheInvariants : Obligations.ResetMeetsTheInvariants :=
  ⟨queueInv_of_empty rfl, tenancyInv_of_reset rfl rfl rfl, waitingInv_of_empty rfl, choiceInv_of_empty rfl, nofun,
    lightInv_reset, holdInv_reset, storeInv_reset, occupancyInv_reset, faultsInv_of_empty rfl,
    officeInv_of_reset rfl, profilesInv_of_reset rfl⟩

/-- Settles O3: each value is read off the definition of the state after reset. -/
theorem resetHoldsThePowerOnValues : Obligations.ResetHoldsThePowerOnValues := by
  have hport : ∀ p, State.reset.port p = PortRecord.free := fun p => Tab.at_all 32 _ p
  have hlink : ∀ c, State.reset.link c = Link.reset := fun c => Tab.at_all 4 _ c
  refine ⟨hport, rfl, rfl, rfl, rfl, fun p => Tab.at_all 32 _ p, rfl, fun c => Tab.at_all 4 _ c, rfl, rfl, rfl, rfl, rfl,
    rfl, rfl, rfl, rfl, rfl, rfl, rfl, rfl, rfl, rfl, rfl, rfl, rfl, rfl, rfl, rfl, rfl, rfl, rfl, rfl, rfl, rfl, rfl,
    rfl, rfl, rfl, rfl, rfl, fun i => Tab.at_all 64 _ i, rfl, fun i => Tab.at_all 4 _ i, fun c => Tab.at_all 4 _ c, rfl,
    rfl, rfl, hlink, rfl⟩
end

section
/-! SUPPORT. The idle status word bit by bit (R173), and the attention flags by their conditions (R174). -/

namespace Sys2Proof.Machine

/-! ### The flags (R174) -/

theorem State.resultFlag_iff (s : State) (c : Client) :
    s.resultFlag c = true ↔ ∃ p, (s.port p).claimant = some c ∧ (s.port p).unread = true := by
  simp [State.resultFlag, portList]

theorem State.findingsFlag_iff (s : State) (c : Client) :
    s.findingsFlag c = true ↔ ∃ p, (s.port p).claimant = some c ∧ (s.port p).unseen = true := by
  simp [State.findingsFlag, portList]

theorem State.heldFlag_iff (s : State) (c : Client) :
    s.heldFlag c = true ↔ s.eng.state = .held ∧ s.hold.members.at c = true := by
  simp [State.heldFlag, State.isHeld]

/-! ### The word (R173) -/

/-- A status word of given fields: the six flags, the engine's and the selector's state, clock SET, the queue's length,
ASSEMBLING, and the words received (R173). -/
def statusWord (f1 f2 f3 f4 f5 f6 : Bool) (eng sel : BitVec 3) (clock : Bool) (queue : BitVec 6) (assembling : Bool)
    (received : BitVec 4) : BitVec (2 + 1 + 1 + 1 + 1 + 1 + 1 + 3 + 3 + 1 + 6 + 1 + 4 + 6) :=
  0#2 ++ BitVec.ofBool f1 ++ BitVec.ofBool f2 ++ BitVec.ofBool f3 ++ BitVec.ofBool f4 ++ BitVec.ofBool f5
    ++ BitVec.ofBool f6 ++ eng ++ sel ++ BitVec.ofBool clock ++ queue ++ BitVec.ofBool assembling ++ received ++ 0#6

theorem State.idleWord_eq (s : State) (c : Client) :
    s.idleWord c = statusWord (s.resultFlag c) (s.findingsFlag c) (s.heldFlag c) (s.link c).overrun (s.link c).framing
      (s.link c).store (BitVec.ofNat 3 s.eng.state.code) (BitVec.ofNat 3 s.sel.state.code) s.office.clock.isSome
      (BitVec.ofNat 6 s.queue.entries.length) (s.link c).assembly.isAssembling
      (BitVec.ofNat 4 (s.link c).assembly.received) := rfl

section
variable (f1 f2 f3 f4 f5 f6 : Bool) (eng sel : BitVec 3) (clock : Bool) (queue : BitVec 6) (assembling : Bool)
  (received : BitVec 4)

/-- The status word's bits of one flag each. -/
theorem statusWord_flags (w : BitVec 32) (h : w = statusWord f1 f2 f3 f4 f5 f6 eng sel clock queue assembling received) :
    w.getLsbD 29 = f1 ∧ w.getLsbD 28 = f2 ∧ w.getLsbD 27 = f3 ∧ w.getLsbD 26 = f4 ∧ w.getLsbD 25 = f5 ∧
      w.getLsbD 24 = f6 ∧ w.getLsbD 17 = clock ∧ w.getLsbD 10 = assembling := by
  subst h
  refine ⟨?_, ?_, ?_, ?_, ?_, ?_, ?_, ?_⟩ <;>
    · simp only [statusWord, BitVec.getLsbD_append]
      simp

/-- The status word's type bits are those of an idle word (R167, R173). -/
theorem statusWord_type :
    (statusWord f1 f2 f3 f4 f5 f6 eng sel clock queue assembling received).extractLsb' 30 2 = 0#2 := by
  rw [statusWord]
  iterate 13 rw [BitVec.extractLsb'_append_eq_of_le (by decide)]
  rfl

theorem statusWord_engine :
    (statusWord f1 f2 f3 f4 f5 f6 eng sel clock queue assembling received).extractLsb' 21 3 = eng := by
  rw [statusWord]
  iterate 6 rw [BitVec.extractLsb'_append_eq_of_le (by decide)]
  exact BitVec.extractLsb'_append_eq_right

theorem statusWord_selector :
    (statusWord f1 f2 f3 f4 f5 f6 eng sel clock queue assembling received).extractLsb' 18 3 = sel := by
  rw [statusWord]
  iterate 5 rw [BitVec.extractLsb'_append_eq_of_le (by decide)]
  exact BitVec.extractLsb'_append_eq_right

theorem statusWord_queue :
    (statusWord f1 f2 f3 f4 f5 f6 eng sel clock queue assembling received).extractLsb' 11 6 = queue := by
  rw [statusWord]
  iterate 3 rw [BitVec.extractLsb'_append_eq_of_le (by decide)]
  exact BitVec.extractLsb'_append_eq_right

theorem statusWord_received :
    (statusWord f1 f2 f3 f4 f5 f6 eng sel clock queue assembling received).extractLsb' 6 4 = received := by
  rw [statusWord, BitVec.extractLsb'_append_eq_of_le (by decide)]
  exact BitVec.extractLsb'_append_eq_right

theorem statusWord_low :
    (statusWord f1 f2 f3 f4 f5 f6 eng sel clock queue assembling received).extractLsb' 0 6 = 0#6 :=
  BitVec.extractLsb'_append_eq_right

end

theorem EngState.code_lt (x : EngState) : x.code < 2 ^ 3 := by cases x <;> decide

theorem SelState.code_lt (x : SelState) : x.code < 2 ^ 3 := by cases x <;> decide

/-- A field of `n` bits shows every number that fits it. -/
theorem toNat_of_field {n k : Nat} {w : BitVec n} (h : w = BitVec.ofNat n k) (hk : k < 2 ^ n) : w.toNat = k := by
  rw [h, BitVec.toNat_ofNat, Nat.mod_eq_of_lt hk]

end Sys2Proof.Machine

open Sys2Proof.Machine

/-- Settles O12: the word is a status word of the state's fields, and each of its parts shows its field. -/
theorem idleStatusWordAndAttention : Obligations.IdleStatusWordAndAttention := by
  intro s c
  obtain ⟨h29, h28, h27, h26, h25, h24, h17, h10⟩ :=
    statusWord_flags _ _ _ _ _ _ _ _ _ _ _ _ (s.idleWord c) (s.idleWord_eq c)
  exact ⟨s.resultFlag_iff c, s.findingsFlag_iff c, s.heldFlag_iff c, statusWord_type .., h29, h28, h27, h26, h25, h24,
    toNat_of_field (statusWord_engine ..) s.eng.state.code_lt, toNat_of_field (statusWord_selector ..) s.sel.state.code_lt,
    h17, fun hn => toNat_of_field (statusWord_queue ..) (Nat.lt_of_le_of_lt hn (by decide)), h10,
    fun hn => toNat_of_field (statusWord_received ..) (Nat.lt_of_le_of_lt hn (by decide)), statusWord_low ..,
    ⟨rfl, rfl⟩, fun _ _ => ⟨rfl, rfl⟩, rfl, rfl⟩
end

section
/-! SUPPORT. The requests of the port table (chapter 1): what a request that is taken answers and does, given what its
block makes of it, and the fields of an adjusted profile. -/

namespace Sys2Proof.Machine

/-! ### A request that is taken -/

theorem exec_command (r : Request) (c : Client) (tag : Tag) (s : State) :
    exec (r.command c tag) s = .next (s.takeRequest c tag r) := by
  cases r <;> rfl

/-- A request of more words than one is taken, and answered with what its block makes of it (R171). -/
theorem exec_answered {s u : State} {c : Client} {r : Request} {x : Response} (tag : Tag) (h : s.takes c)
    (hs : r ≠ .status) (hl : r ≠ .linkReset) (hlen : r.length ≠ 1) (hu : handle c r s = (x, u)) :
    ∃ t, exec (r.command c tag) s = .next t ∧ Answered s t c (s.linkAfter c false) r.code tag x ∧ t = u.setHw t.hw := by
  have ha := s.takeRequest_answered c tag r h hs hl
  rw [hu, decide_eq_false hlen] at ha
  exact ⟨_, exec_command r c tag s, ha⟩

/-! ### The checks of R3 -/

/-- A request that names a port has more words than one (11.6). -/
theorem Request.length_of_namedPort {r : Request} {v : Payload} (h : r.namedPort = some v) : r.length ≠ 1 := by
  cases r <;> simp [Request.namedPort, Request.length, Request.wire] at h ⊢

theorem Request.ne_status_of_namedPort {r : Request} {v : Payload} (h : r.namedPort = some v) :
    r ≠ .status ∧ r ≠ .linkReset := by
  constructor <;> rintro rfl <;> cases h

/-- What a request that names a port answers when the port's checks refuse it: their code, with nothing changed (R3). -/
theorem handle_of_ownedPort_error {r : Request} {v : Payload} (h : r.namedPort = some v) (hc : ∀ x, r ≠ .claim x)
    (c : Client) (s : State) {code : RespCode} (he : ownedPort s c v = .error code) :
    handle c r s = (.plain code, s) := by
  cases r
  case claim x => exact absurd rfl (hc x)
  case release | setProfile | getProfile | getResult | schedule | getTrace | getFindings | ackFinding | deleteFinding |
      baselineInfo | eraseBaseline =>
    cases h
    simp only [handle, doRelease, doSetProfile, doGetProfile, doGetResult, doSchedule, doGetTrace, doGetFindings,
      doAckFinding, doDeleteFinding, doBaselineInfo, doEraseBaseline, he]
  all_goals cases h

theorem doClaim_badPort (c : Client) (v : Payload) (s : State) (h : 32 ≤ v.toNat) :
    doClaim c v s = (.plain .badPort, s) := by
  simp only [doClaim, portOf_eq_none v h]

/-- Check 2 of R3 for every request that names a port. -/
theorem handle_badPort {r : Request} {v : Payload} (h : r.namedPort = some v) (c : Client) (s : State)
    (hv : 32 ≤ v.toNat) : handle c r s = (.plain .badPort, s) := by
  by_cases hc : ∃ x, r = .claim x
  · obtain ⟨x, rfl⟩ := hc
    cases h
    exact doClaim_badPort c v s hv
  · exact handle_of_ownedPort_error h (not_exists.1 hc) c s (ownedPort_badPort s c v hv)

/-! ### CLAIM (R4) -/

theorem doClaim_unclaimed (c : Client) (v : Payload) (s : State) (p : PortNo) (h : v.toNat = p.val)
    (hp : (s.port p).claimant = none) : doClaim c v s = (.plain .ok, s.setPort p { s.port p with claimant := some c }) := by
  simp only [doClaim, portOf_of_val v p h, hp]

theorem doClaim_claimed (c d : Client) (v : Payload) (s : State) (p : PortNo) (h : v.toNat = p.val)
    (hp : (s.port p).claimant = some d) : doClaim c v s = (if d = c then .plain .ok else .plain .taken, s) := by
  simp only [doClaim, portOf_of_val v p h, hp]
  split <;> rfl

/-! ### The other requests of the claimant -/

theorem doSetProfile_owned (c : Client) (v : Payload) (f : ProfileWords) (s : State) (p : PortNo) (h : v.toNat = p.val)
    (hp : (s.port p).claimant = some c) :
    doSetProfile c v f s =
      ({ code := if differsFrom (adjustProfile f) f then .adjusted else .ok, body := (adjustProfile f).body },
        s.setPort p { s.port p with profile := adjustProfile f }) := by
  simp only [doSetProfile, ownedPort_of_claimant s c v p h hp]

theorem doGetProfile_owned (c : Client) (v : Payload) (s : State) (p : PortNo) (h : v.toNat = p.val)
    (hp : (s.port p).claimant = some c) :
    doGetProfile c v s =
      ({ code := .ok
         body := (s.port p).profile.body ++ [num (deadZoneEnd (s.port p).profile.pulse (s.port p).profile.period),
           num (spacing (s.port p).profile.groupIndex (s.port p).profile.period)] }, s) := by
  simp only [doGetProfile, ownedPort_of_claimant s c v p h hp]

theorem doGetResult_owned (c : Client) (v : Payload) (s : State) (p : PortNo) (h : v.toNat = p.val)
    (hp : (s.port p).claimant = some c) :
    doGetResult c v s =
      ({ code := .ok, body := resultBody (s.port p).result }, s.setPort p { s.port p with unread := false }) := by
  simp only [doGetResult, ownedPort_of_claimant s c v p h hp]

/-! ### The fields of an adjusted profile (R10, R11) -/

/-- A value in its range stays, one below it becomes the lowest and one above it the highest (R10). -/
theorem clamp_spec (lo hi v : Nat) (h : lo ≤ hi) :
    (lo ≤ v → v ≤ hi → clamp lo hi v = v) ∧ (v < lo → clamp lo hi v = lo) ∧ (hi < v → clamp lo hi v = hi) := by
  unfold clamp
  omega

/-- The point count is the next lower listed value (R10). -/
theorem legalPoints_spec (v : Nat) :
    (v < 1024 → legalPoints v = 1024) ∧ (1024 ≤ v → legalPoints v ≤ v ∧
      ∀ y ∈ [1024, 2048, 4096, 8192, 16384], y ≤ v → y ≤ legalPoints v) := by
  simp only [List.mem_cons, List.not_mem_nil, or_false, forall_eq_or_imp, forall_eq]
  unfold legalPoints
  (repeat' split) <;> omega

/-- The smoothing is the next lower listed value (R10). -/
theorem legalSmoothing_spec (v : Nat) :
    (v = 0 → legalSmoothing v = 1) ∧ (1 ≤ v → legalSmoothing v ≤ v ∧
      ∀ y ∈ [1, 2, 4, 8, 16, 32], y ≤ v → y ≤ legalSmoothing v) := by
  simp only [List.mem_cons, List.not_mem_nil, or_false, forall_eq_or_imp, forall_eq]
  unfold legalSmoothing
  (repeat' split) <;> omega

/-- Every pulse code the dead-zone check passed over has its dead zone beyond P / 2 (R11). -/
theorem deadZonePulse_highest (period points pulse y : Nat) (h : deadZonePulse period points pulse < y) (hy : y ≤ pulse) :
    points / 2 ≤ deadZoneEnd y period := by
  induction pulse with
  | zero => omega
  | succ n ih =>
    unfold deadZonePulse at h
    split at h
    · rename_i hbeyond
      by_cases hyn : y = n + 1
      · exact hyn ▸ hbeyond
      · exact ih h (by omega)
    · omega

theorem payload_ne_zero_iff (v : Payload) : v ≠ 0#30 ↔ v.toNat ≠ 0 := (payload_eq_iff v 0 (by decide)).not

/-- No stored field differs from the one sent (R10). -/
theorem differsFrom_eq_false (x : Profile) (f : ProfileWords) :
    differsFrom x f = false ↔
      x.groupIndex = f.groupIndex.toNat ∧ x.period = f.period.toNat ∧ x.points = f.points.toNat ∧
      x.pulse = f.pulse.toNat ∧ x.averages = f.averages.toNat ∧ x.floorMargin = f.floorMargin.toNat ∧
      x.stepThreshold = f.stepThreshold.toNat ∧ x.reflectionThreshold = f.reflectionThreshold.toNat ∧
      x.smoothing = f.smoothing.toNat ∧ x.confirmLength = f.confirmLength.toNat ∧
      x.bendMargin = f.bendMargin.toNat ∧ x.matchDistance = f.matchDistance.toNat := by
  simp only [differsFrom, Bool.or_eq_false_iff, decide_eq_false_iff_not, not_not, and_assoc]

/-! ### The words of a profile and of a result record (R168, 11.6) -/

theorem num_toNat (n : Nat) (h : n < 2 ^ 30) : (num n).toNat = n := by
  rw [num, BitVec.toNat_ofNat, Nat.mod_eq_of_lt h]

/-- A result record's words, with its four coded fields and the fields of a band written out (11.6). -/
theorem ResultRecord.body_eq (r : ResultRecord) (kind band status cause : Payload) (cells : BandResult → List Payload)
    (hkind : kind = (match r.kind with | .routine => 0#30 | .urgent => 1#30 | .baseline _ => 2#30 | .confirm => 3#30))
    (hband : band = (match r.kind with | .baseline .A => 0#30 | .baseline .B => 1#30 | _ => BitVec.allOnes 30))
    (hstatus : status =
      (match r.status with | .done => 0#30 | .cancelled => 1#30 | .evicted => 2#30 | .failed => 3#30))
    (hcause : cause =
      (match r.cause with | some .selector => 0#30 | some .disturbed => 1#30 | none => BitVec.allOnes 30))
    (hcells : ∀ x, cells x = [flag x.run,
      match x.baseline with
        | some .matching => 0#30 | some .noBaseline => 1#30 | some .mismatch => 2#30 | none => BitVec.allOnes 30,
      optNum x.endIndex, optNum x.dark]) :
    r.body = [num r.ticket, kind, band, status, cause] ++ cells r.bands.a ++ cells r.bands.b ++
      [num r.findings, flag r.more, flag r.tableFull, optNum r.time] := by
  have hk : num r.kind.code = kind := by rw [hkind]; cases r.kind <;> rfl
  have hb : optNum (r.kind.band.map bandCode) = band := by
    rw [hband]
    cases r.kind with
    | baseline b => cases b <;> rfl
    | routine | urgent | confirm => rfl
  have hs : num r.status.code = status := by rw [hstatus]; cases r.status <;> rfl
  have hc : optNum (r.cause.map Cause.code) = cause := by
    rw [hcause]
    cases r.cause with
    | none => rfl
    | some x => cases x <;> rfl
  have hcell : ∀ x : BandResult, x.body = cells x := by
    intro x
    rw [hcells, BandResult.body]
    cases x.baseline with
    | none => rfl
    | some m => cases m <;> rfl
  rw [ResultRecord.body, hk, hb, hs, hc, hcell, hcell]

end Sys2Proof.Machine

open Sys2Proof
open Sys2Proof.Machine

/-- Settles O18: the request is taken and answered as `doClaim` says for the port's claimant. -/
theorem claimFollowsItsTable : Obligations.ClaimFollowsItsTable := by
  intro s c tag port h
  have hanswer : ∀ x u, doClaim c port s = (x, u) → ∃ t, exec (.claim c tag port) s = .next t ∧
      Answered s t c (s.linkAfter c false) 1 tag x ∧ t = u.setHw t.hw := fun x u hu =>
    exec_answered (r := .claim port) tag h nofun nofun (Request.length_of_namedPort rfl) hu
  refine ⟨fun hbad => hanswer _ _ (doClaim_badPort c port s hbad), fun p hp => ?_⟩
  cases hc : (s.port p).claimant with
  | none =>
    obtain ⟨t, ht, ha, hu⟩ := hanswer _ _ (doClaim_unclaimed c port s p hp hc)
    exact ⟨t, ht, fun _ => ⟨ha, hu⟩, nofun, nofun⟩
  | some d =>
    obtain ⟨t, ht, ha, hu⟩ := hanswer _ _ (doClaim_claimed c d port s p hp hc)
    refine ⟨t, ht, nofun, fun hd => ?_, fun e he hne => ?_⟩
    · rw [if_pos (Option.some.inj hd)] at ha
      exact ⟨ha, hu⟩
    · rw [if_neg (Option.some.inj he ▸ hne)] at ha
      exact ⟨ha, hu⟩

/-- Settles O19: the checks of R3 come first in every request that names a port. -/
theorem portChecksRefuse : Obligations.PortChecksRefuse := by
  have hrefuse : ∀ (s : State) (c : Client) (tag : Tag) (r : Request) (v : Payload), s.takes c →
      Request.namedPort r = some v → ∃ t, exec (r.command c tag) s = .next t ∧
        (32 ≤ v.toNat → Answered s t c (s.linkAfter c false) r.code tag (.plain .badPort) ∧ t = s.setHw t.hw) ∧
        (∀ p : PortNo, v.toNat = p.val → (s.port p).claimant ≠ some c → (∀ x, r ≠ .claim x) →
          Answered s t c (s.linkAfter c false) r.code tag (.plain .notOwner) ∧ t = s.setHw t.hw) := by
    intro s c tag r v h hv
    obtain ⟨hs, hl⟩ := Request.ne_status_of_namedPort hv
    have ha := fun x u => exec_answered (s := s) (u := u) (x := x) (c := c) tag h hs hl (Request.length_of_namedPort hv)
    rw [exec_command] at *
    refine ⟨_, rfl, fun hbad => ?_, fun p hp hne hc => ?_⟩
    · obtain ⟨t, ⟨⟩, hanswer⟩ := ha _ _ (handle_badPort hv c s hbad)
      exact hanswer
    · obtain ⟨t, ⟨⟩, hanswer⟩ := ha _ _ (handle_of_ownedPort_error hv hc c s (ownedPort_notOwner s c v p hp hne))
      exact hanswer
  refine ⟨hrefuse, fun s c tag v band first count h => ?_⟩
  obtain ⟨t, ht, hbad, howner⟩ := hrefuse s c tag (.getTrace 1#30 v band first count) v h rfl
  exact ⟨t, ht, hbad, fun p hp hne => howner p hp hne nofun⟩

/-- Settles O21: the claimant's request passes the checks and replaces the profile. -/
theorem setProfileStoresTheAdjustedProfile : Obligations.SetProfileStoresTheAdjustedProfile := by
  intro s c tag port f p h hp hc
  obtain ⟨t, ht, ha, hu⟩ := exec_answered (r := .setProfile port f) tag h nofun nofun (Request.length_of_namedPort rfl)
    (doSetProfile_owned c port f s p hp hc)
  exact ⟨t, ht, hu, ha⟩

/-- Settles O22: each field by what its clamping does, the pulse code by the dead-zone check. -/
theorem adjustedProfileIsLegal : Obligations.AdjustedProfileIsLegal := by
  rintro f x rfl
  have hfield : (clampFields f).pulse = min 6 f.pulse.toNat := by
    change clamp 0 6 f.pulse.toNat = _
    unfold clamp
    omega
  have hpulse : (adjustProfile f).pulse ≤ min 6 f.pulse.toNat :=
    (deadZonePulse_le ..).trans hfield.le
  refine ⟨adjustProfile_legal f, ?_, (legalPoints_spec _).1, (legalPoints_spec _).2, (legalSmoothing_spec _).1,
    (legalSmoothing_spec _).2, hpulse, ?_, ?_, ?_, ?_, differsFrom_eq_false _ f⟩
  · intro v n lo hi hm
    simp only [List.mem_cons, Prod.mk.injEq, List.not_mem_nil, or_false] at hm
    obtain ⟨rfl, rfl, rfl, rfl⟩ | ⟨rfl, rfl, rfl, rfl⟩ | ⟨rfl, rfl, rfl, rfl⟩ | ⟨rfl, rfl, rfl, rfl⟩ |
      ⟨rfl, rfl, rfl, rfl⟩ | ⟨rfl, rfl, rfl, rfl⟩ | ⟨rfl, rfl, rfl, rfl⟩ | ⟨rfl, rfl, rfl, rfl⟩ |
      ⟨rfl, rfl, rfl, rfl⟩ := hm <;> exact clamp_spec _ _ _ (by decide)
  · exact ((Profile.legal_iff _).1 (adjustProfile_legal f)).2.2.2.2.2.2.2.2.2.2.2.2
  · intro y hy hle
    exact deadZonePulse_highest _ _ _ y hy (hle.trans hfield.ge)
  · exact (decide_eq_true_iff).trans (payload_ne_zero_iff _)
  · exact (decide_eq_true_iff).trans (payload_ne_zero_iff _)

/-- Settles O23: the claimant's requests pass the checks and read the record; the words by their definitions. -/
theorem getProfileAndGetResultRead : Obligations.GetProfileAndGetResultRead := by
  refine ⟨fun s c tag port p h hp hc => ⟨?_, ?_⟩, fun n hn => ⟨num_toNat n hn, rfl⟩, rfl, rfl, rfl, fun _ => rfl,
    ResultRecord.body_eq⟩
  · obtain ⟨t, ht, ha, hu⟩ := exec_answered (r := .getProfile port) tag h nofun nofun (Request.length_of_namedPort rfl)
      (doGetProfile_owned c port s p hp hc)
    exact ⟨t, ht, hu, ha⟩
  · obtain ⟨t, ht, ha, hu⟩ := exec_answered (r := .getResult port) tag h nofun nofun (Request.length_of_namedPort rfl)
      (doGetResult_owned c port s p hp hc)
    refine ⟨t, ht, hu, ?_⟩
    rwa [show resultBody (s.port p).result =
      (match (s.port p).result with | some r => r.body | none => [BitVec.allOnes 30]) by
        cases (s.port p).result <;> rfl] at ha
end

section
/-! SUPPORT. The end of a test (R35): the result record by its fields, the CONFIRM that is admitted, and where the
engine goes. -/

namespace Sys2Proof.Machine

theorem Kind.isBaseline_eq_false (k : Kind) : k.isBaseline = false ↔ k ≠ .baseline .A ∧ k ≠ .baseline .B := by
  cases k with
  | baseline b => cases b <;> simp [Kind.isBaseline]
  | routine | urgent | confirm => simp [Kind.isBaseline]

/-- A band's part of a result is determined by its four fields (R14). -/
theorem eq_bandResult {x : BandResult} {eng : Engine} {e : Entry} {ri : RunInfo} {st : Status} {r : Report} {b : Band}
    (hrun : x.run = ri.done.has b) (hdark : x.dark = eng.darks.at b)
    (hend : x.endIndex =
      if st = .done ∧ ri.done.has b = true then (eng.traces.at b).map (fun t => t.endIndex) else none)
    (hbase : x.baseline = if st = .done ∧ ri.done.has b = true ∧ e.kind ≠ .baseline .A ∧ e.kind ≠ .baseline .B then
      r.baselines.at b else none) : x = bandResult eng e ri st r b := by
  obtain ⟨run, baseline, endIndex, dark⟩ := x
  simp only at hrun hdark hend hbase
  simp only [bandResult, hrun, hdark, hend, hbase, Kind.isBaseline_eq_false]

/-- With a CONFIRM asked for, the port claimed and none QUEUED, the CONFIRM is admitted (R41). -/
theorem State.admitConfirm_admits {s : State} {p : PortNo} {c : Client} (hc : (s.port p).claimant = some c)
    (hq : s.queue.findQueued p .confirm = none) :
    s.admitConfirm p = s.setQueue (s.queue.addEntry c p .confirm .analysis) := by
  simp [State.admitConfirm, hc, hq]

/-- Without a claimant, or with a CONFIRM QUEUED, none is admitted (R41). -/
theorem State.admitConfirm_skips {s : State} {p : PortNo}
    (h : ¬ (s.queue.findQueued p .confirm = none ∧ (s.port p).claimant.isSome = true)) : s.admitConfirm p = s := by
  unfold State.admitConfirm
  split
  · rfl
  · rename_i c hc
    split
    · rfl
    · rename_i hq
      exact absurd ⟨by simpa using hq, by simp [hc]⟩ h

theorem Report.asksConfirm_iff (r : Report) :
    r.asksConfirm = true ↔ ∃ f ∈ r.findings, f.kind = .step ∧ f.bands = some .bOnly := by
  simp [Report.asksConfirm]

theorem State.leaveTest_of_noHold {s : State} (h : ∀ c, s.hold.members.at c = false) :
    s.leaveTest = s.setEng { s.eng with state := .idle } := by
  rw [State.leaveTest, if_pos ((HoldUnit.isEmpty_iff _).2 h)]

theorem State.leaveTest_of_held {s : State} (h : ∃ c, s.hold.members.at c = true) (hs : s.eng.state = .held) :
    s.leaveTest = s := by
  have hempty : s.hold.isEmpty = false := (HoldUnit.isEmpty_eq_false_iff _).2 h
  rw [State.leaveTest, hempty, if_neg Bool.false_ne_true, if_pos hs]

theorem State.leaveTest_of_hold {s : State} (h : ∃ c, s.hold.members.at c = true) (hs : s.eng.state ≠ .held) :
    s.leaveTest = s.enterHeld := by
  have hempty : s.hold.isEmpty = false := (HoldUnit.isEmpty_eq_false_iff _).2 h
  rw [State.leaveTest, hempty, if_neg Bool.false_ne_true, if_neg hs]

/-- The RUNNING entry leaves: exactly the QUEUED entries stay (R35). -/
theorem TestQueue.drop_run (q : TestQueue) :
    q.drop (fun y => y.run.isSome) = { q with entries := q.entries.filter (fun y => decide (y.run = none)) } := by
  unfold TestQueue.drop
  congr 2
  funext y
  cases h : y.run <;> simp [h]

end Sys2Proof.Machine

open Sys2Proof
open Sys2Proof.Machine

/-- Settles O42: `State.testGone` is the state before the latch drain, by whether the CONFIRM is admitted. -/
theorem endOfTestCarriesOutItsSteps : Obligations.EndOfTestCarriesOutItsSteps := by
  intro s st cause r full
  refine ⟨?_, r.asksConfirm_iff, fun h => s.endTest_of_none h st cause r full, rfl, State.leaveTest_of_noHold,
    State.leaveTest_of_hold, State.leaveTest_of_held⟩
  intro u e ri x hrunning hrun hticket hkind hstatus hcause hfindings hmore hfull htime hbands hu
  have hband : ∀ b, x.bands.at b = bandResult s.eng e ri st r b := fun b =>
    let ⟨hdone, hdark, hend, hbase⟩ := hbands b
    eq_bandResult hdone hdark hend hbase
  have hx : x = runningResult s.eng e ri st cause r full s.office.clock := by
    obtain ⟨ticket, kind, status, cause', ⟨a, b⟩, findings, more, tableFull, time⟩ := x
    have ha : a = _ := hband .A
    have hb : b = _ := hband .B
    simp only at hticket hkind hstatus hcause hfindings hmore hfull htime
    simp only [runningResult, ha, hb, hticket, hkind, hstatus, hcause, hfindings, hmore, hfull, htime]
  have hleft : (s.writeResult e.port x).setQueue (s.queue.drop (fun y => y.run.isSome)) = u := by
    rw [TestQueue.drop_run, hu]
    rfl
  have hclaim : (u.port e.port).claimant = (s.port e.port).claimant := by
    rw [hu, State.setQueue_port, State.setPort_port, if_pos rfl]
  refine ⟨s.testGone e x (st = .done ∧ r.asksConfirm = true), fun ⟨hdone, hasks, hq⟩ c hc => ?_, fun hnot => ?_, ?_⟩
  · rw [State.testGone, hleft, if_pos ⟨hdone, hasks⟩, State.admitConfirm_admits (hclaim.trans hc) hq]
    rfl
  · rw [State.testGone, hleft]
    split
    · rename_i hasks
      exact State.admitConfirm_skips fun ⟨hq, hc⟩ => hnot ⟨hasks.1, hasks.2, hq, hclaim ▸ hc⟩
    · rfl
  · rw [s.endTest_of_running hrunning hrun, hx]
end

section
/-! SUPPORT. The release of a port (R5 to R7): what the latch drain depends on and leaves, what the detached test leaves
of the other parts, and what the arbiter's choice leaves as it was. -/

namespace Sys2Proof.Machine

/-! ### The latch drain -/

theorem State.drainPort_queue_congr {s t : State} (hq : t.queue = s.queue) (hp : t.ports = s.ports) (p : PortNo) :
    (t.drainPort p).queue = (s.drainPort p).queue := by
  have hport : t.port p = s.port p := congrArg (Tab.at · p) hp
  unfold State.drainPort
  rw [hq, hport]
  (repeat' split) <;> simp [hq]

/-- What the drain makes of the queue depends on the queue and the ports alone (R40). -/
theorem State.drain_queue_congr {s t : State} (hq : t.queue = s.queue) (hp : t.ports = s.ports) :
    t.drain.queue = s.drain.queue := by
  have hports : ∀ (u : State) (p : PortNo), (u.drainPort p).ports = u.ports := fun u p => by rw [u.drainPort_eq p]; rfl
  have h : ∀ (l : List PortNo) (s t : State), t.queue = s.queue → t.ports = s.ports →
      (l.foldl State.drainPort t).queue = (l.foldl State.drainPort s).queue := by
    intro l
    induction l with
    | nil => exact fun _ _ hq _ => hq
    | cons p l ih =>
      exact fun s t hq hp => ih _ _ (State.drainPort_queue_congr hq hp p) (by rw [hports, hports, hp])
  exact h portList s t hq hp

/-- The queue holds nothing of a port: no entry, and no latch (R5). -/
def TestQueue.FreeOf (q : TestQueue) (p : PortNo) : Prop := q.latches.at p = false ∧ ∀ e ∈ q.entries, e.port ≠ p

theorem TestQueue.FreeOf.setLatch {q : TestQueue} {p : PortNo} (h : q.FreeOf p) (r : PortNo) :
    (q.setLatch r false).FreeOf p := by
  refine ⟨?_, h.2⟩
  rw [TestQueue.setLatch_at]
  split
  · rfl
  · exact h.1

/-- A drain's work on any port brings back nothing of a port that has no entry and no latch (R40). -/
theorem State.drainPort_freeOf {s : State} {p : PortNo} (h : s.queue.FreeOf p) (r : PortNo) :
    (s.drainPort r).queue.FreeOf p := by
  unfold State.drainPort
  split
  · exact h
  rename_i hwork
  have hrp : r ≠ p := by
    rintro rfl
    exact hwork (.inl h.1)
  split
  · exact h.setLatch r
  split
  · refine TestQueue.FreeOf.setLatch (q := s.queue.upgrade r) ⟨h.1, fun e he => ?_⟩ r
    rw [TestQueue.upgrade_entries] at he
    obtain ⟨x, hx, rfl⟩ := List.mem_map.1 he
    rw [Entry.upgraded_port]
    exact h.2 x hx
  split
  · rename_i c hc
    refine TestQueue.FreeOf.setLatch (q := s.queue.addEntry c r .urgent .los) ⟨h.1, fun e he => ?_⟩ r
    rw [TestQueue.addEntry_entries, List.mem_append, List.mem_singleton] at he
    rcases he with he | rfl
    · exact h.2 e he
    · exact hrp
  · exact h

theorem State.drain_freeOf {s : State} {p : PortNo} (h : s.queue.FreeOf p) : s.drain.queue.FreeOf p := by
  have hall : ∀ (l : List PortNo) (t : State), t.queue.FreeOf p → (l.foldl State.drainPort t).queue.FreeOf p := by
    intro l
    induction l with
    | nil => exact fun _ ht => ht
    | cons r l ih => exact fun t ht => ih _ (State.drainPort_freeOf ht r)
  exact hall portList s h

/-! ### The entries of a port dropped -/

/-- A port's entries and latch gone, written out (R5). -/
theorem TestQueue.drop_port_setLatch (q : TestQueue) (p : PortNo) :
    (q.drop (fun e => decide (e.port = p))).setLatch p false =
      { q with entries := q.entries.filter (fun e => decide (e.port ≠ p)), latches := q.latches.put p false } := by
  simp only [TestQueue.drop, TestQueue.setLatch, ne_eq, decide_not]

/-- A RUNNING entry that stays is RUNNING still. -/
theorem TestQueue.Form.drop_running_stays {q : TestQueue} (h : q.Form) {leaves : Entry → Bool} {e : Entry}
    (hr : q.running = some e) (hl : leaves e = false) : (q.drop leaves).running = some e := by
  obtain ⟨he, hrun⟩ := TestQueue.running_eq_some hr
  cases hd : (q.drop leaves).running with
  | none =>
    rw [(TestQueue.running_eq_none _).1 hd e ((q.mem_drop leaves e).2 ⟨he, hl⟩)] at hrun
    cases hrun
  | some x =>
    obtain ⟨hx, hxr⟩ := TestQueue.running_eq_some hd
    rw [h.2.2.2 e he x ((q.mem_drop leaves x).1 hx).1 hrun hxr]

/-! ### The detached test (R6) -/

theorem State.detach_of_not_held {s : State} (h : s.eng.state ≠ .held) :
    s.detach = s.setEng { s.eng with hand := .detached } := by
  unfold State.detach
  rw [if_neg h]

/-- A parked test of the port ends at once; the engine stays HELD, for a client holds (R6, R160). -/
theorem State.detach_of_held {s : State} (h : s.eng.state = .held) (hm : ∃ c, s.hold.members.at c = true) :
    s.detach = (s.setEng { s.eng with hand := .detached }).clearMark.discardWork := by
  unfold State.detach
  rw [if_pos h]
  exact State.leaveTest_of_held hm h

/-- What stays of the selector, the store, the hold set and the last-trace pair when a test is detached (R6). -/
theorem State.detachIf_keeps {s : State} (hs : HoldInv s) (p : PortNo) :
    (s.detachIf p).sel = s.sel ∧ (s.detachIf p).store.slots = s.store.slots ∧
      (s.detachIf p).store.commits = s.store.commits ∧ (s.detachIf p).hold.members = s.hold.members ∧
      (s.detachIf p).eng.lastPair = s.eng.lastPair := by
  unfold State.detachIf
  split
  · by_cases h : s.eng.state = .held
    · rw [State.detach_of_held h (hs (.inl h))]
      exact ⟨rfl, rfl, rfl, rfl, rfl⟩
    · rw [State.detach_of_not_held h]
      exact ⟨rfl, rfl, rfl, rfl, rfl⟩
  · exact ⟨rfl, rfl, rfl, rfl, rfl⟩

/-! ### The last-trace pair (R7) -/

theorem Engine.forgetPair_eq (eng : Engine) (p : PortNo) :
    eng.forgetPair p = { eng with lastPair := (eng.forgetPair p).lastPair } := by
  unfold Engine.forgetPair
  (repeat' split) <;> rfl

theorem Engine.forgetPair_lastPair (eng : Engine) (p : PortNo) (x : LastPair) :
    (eng.forgetPair p).lastPair = some x ↔ eng.lastPair = some x ∧ x.port ≠ p := by
  unfold Engine.forgetPair
  split
  · rename_i y hy
    split
    · simp only [hy, reduceCtorEq, Option.some.injEq, false_iff, not_and, not_not]
      rintro rfl
      assumption
    · simp only [hy, Option.some.injEq, iff_self_and]
      rintro rfl
      assumption
  · simp [*]

/-! ### The arbiter's choice -/

/-- What the arbiter's choice leaves as it was: the ports, the fault table, the hold set, the latches, the last-trace
pair, the slots and the commit queue, and the port of every entry (R33). -/
structure KeptByChoice (s t : State) : Prop where
  ports : t.ports = s.ports
  faults : t.faults = s.faults
  members : t.hold.members = s.hold.members
  latches : t.queue.latches = s.queue.latches
  entries : t.queue.entries.map (fun e => e.port) = s.queue.entries.map (fun e => e.port)
  lastPair : t.eng.lastPair = s.eng.lastPair
  slots : t.store.slots = s.store.slots
  commits : t.store.commits = s.store.commits

theorem KeptByChoice.refl (s : State) : KeptByChoice s s := ⟨rfl, rfl, rfl, rfl, rfl, rfl, rfl, rfl⟩

theorem KeptByChoice.trans {s t u : State} (h : KeptByChoice s t) (h' : KeptByChoice t u) : KeptByChoice s u where
  ports := h'.ports.trans h.ports
  faults := h'.faults.trans h.faults
  members := h'.members.trans h.members
  latches := h'.latches.trans h.latches
  entries := h'.entries.trans h.entries
  lastPair := h'.lastPair.trans h.lastPair
  slots := h'.slots.trans h.slots
  commits := h'.commits.trans h.commits

theorem Store.reserve_slots (st : Store) : st.reserve.slots = st.slots ∧ st.reserve.commits = st.commits := by
  unfold Store.reserve
  split <;> exact ⟨rfl, rfl⟩

/-- A started test in POSITION, with the selector on its way (R33). -/
theorem State.prepared_kept (s : State) (e : Entry) (pointer : Client) (x : Selector) :
    KeptByChoice s ((s.prepared e pointer).setSel x) where
  ports := rfl
  faults := rfl
  members := rfl
  latches := rfl
  entries := by
    change (s.queue.start e.ticket (s.resolve e.port e.kind)).entries.map (fun e => e.port) = _
    simp [TestQueue.start_entries]
  lastPair := rfl
  slots := by
    change (if e.kind.isBaseline then s.store.reserve else s.store).slots = _
    split
    · exact (Store.reserve_slots _).1
    · rfl
  commits := by
    change (if e.kind.isBaseline then s.store.reserve else s.store).commits = _
    split
    · exact (Store.reserve_slots _).2
    · rfl

/-- A test that goes on (R78). -/
theorem State.goOn_kept (s : State) (ri : RunInfo) : KeptByChoice s (s.goOn ri) := by
  obtain ⟨eng, hgo, -, hpair⟩ := s.goOn_eq ri
  rw [hgo]
  refine ⟨rfl, rfl, rfl, rfl, ?_, hpair, rfl, rfl⟩
  change (s.queue.setRun (fun x => { x with suspended := false })).entries.map (fun e => e.port) = _
  simp [TestQueue.setRun]

theorem State.arbitrate_kept {s : State} (hs : QueueInv s) : KeptByChoice s s.arbitrate := by
  unfold State.arbitrate
  split
  · rename_i hm
    split
    · rename_i e pointer hc
      rcases State.startTest_cases hs hm (State.choose_mem hc) pointer with h | ⟨ri, h⟩
      · rw [h]
        exact s.prepared_kept e pointer _
      · rw [h]
        exact (s.prepared_kept e pointer _).trans (State.goOn_kept _ ri)
    · exact .refl s
  · exact .refl s

theorem State.arbitrate_freeOf {s : State} (hs : QueueInv s) {p : PortNo} (h : s.queue.FreeOf p) :
    s.arbitrate.queue.FreeOf p := by
  have hk := State.arbitrate_kept hs
  refine ⟨hk.latches ▸ h.1, fun e he hp => ?_⟩
  have hmem := List.mem_map_of_mem (f := fun e : Entry => e.port) he
  rw [hk.entries] at hmem
  obtain ⟨x, hx, hxe⟩ := List.mem_map.1 hmem
  exact h.2 x hx (hxe.trans hp)

/-! ### The state before the arbiter -/

/-- A release changes the queue beyond what is gone at once by the latch drain alone (R5, R40). -/
theorem State.releasePort_eq_setQueue (s : State) (p : PortNo) :
    s.releasePort p = (s.cleared p).setQueue (s.releasePort p).queue := by
  rw [State.releasePort_eq]
  split
  · exact State.drain_eq _
  · rfl

theorem State.releasePort_freeOf (s : State) (p : PortNo) : (s.releasePort p).queue.FreeOf p := by
  have h : (s.cleared p).queue.FreeOf p := by
    rw [State.cleared_queue]
    refine ⟨by rw [TestQueue.setLatch_at, if_pos rfl], fun e he => ?_⟩
    simpa using ((TestQueue.mem_drop _ _ e).1 he).2
  rw [State.releasePort_eq]
  split
  · exact State.drain_freeOf h
  · exact h

theorem State.releasePort_running (s : State) (p : PortNo) :
    (s.releasePort p).queue.running = (s.queue.drop (fun e => decide (e.port = p))).running := by
  have h : (s.cleared p).queue.running = (s.queue.drop (fun e => decide (e.port = p))).running := by
    rw [State.cleared_queue, TestQueue.setLatch_running]
  rw [State.releasePort_eq]
  split
  · rw [State.drain_running, h]
  · exact h

theorem State.releasePort_eng (s : State) (p : PortNo) :
    (s.releasePort p).eng = (s.detachIf p).eng.forgetPair p := by
  rw [State.releasePort_eq_setQueue]
  rfl

/-- The record, entries and latch of a port gone, and nothing else (R5). -/
def State.vacated (s : State) (p : PortNo) : State :=
  (s.setPort p PortRecord.free).setQueue
    { s.queue with
      entries := s.queue.entries.filter (fun e => decide (e.port ≠ p))
      latches := s.queue.latches.put p false }

theorem State.cleared_queue_eq_vacated (s : State) (p : PortNo) : (s.cleared p).queue = (s.vacated p).queue :=
  (s.cleared_queue p).trans (s.queue.drop_port_setLatch p)

theorem State.cleared_ports (s : State) (p : PortNo) : (s.cleared p).ports = s.ports.put p PortRecord.free := by
  rw [← (s.detachIf_frame p).2.1]
  rfl

/-- The latch drain of a release runs on the queue with the port's entries and latch gone, when an entry has left (R5,
R40). -/
theorem State.releasePort_queue (s : State) (p : PortNo) :
    ((∃ e ∈ s.queue.entries, e.port = p) → (s.releasePort p).queue = (s.vacated p).drain.queue) ∧
      ((∀ e ∈ s.queue.entries, e.port ≠ p) → (s.releasePort p).queue = (s.vacated p).queue) := by
  rw [State.releasePort_eq]
  refine ⟨fun h => ?_, fun h => ?_⟩
  · rw [if_pos (by simpa using h)]
    exact State.drain_queue_congr (s.cleared_queue_eq_vacated p).symm (s.cleared_ports p).symm |>.symm
  · rw [if_neg (by simpa using h)]
    exact s.cleared_queue_eq_vacated p

/-- A port that runs no test has none detached (R6). -/
theorem State.detachIf_of_other {s : State} {p : PortNo} (h : ∀ e, s.queue.running = some e → e.port ≠ p) :
    s.detachIf p = s := by
  unfold State.detachIf
  rw [if_neg]
  intro hr
  obtain ⟨e, he, hep⟩ := (s.runsPort_iff p).1 hr
  exact h e he hep

theorem State.detachIf_of_own {s : State} {p : PortNo} {e : Entry} (h : s.queue.running = some e) (hp : e.port = p) :
    s.detachIf p = s.detach := by
  unfold State.detachIf
  rw [if_pos ((s.runsPort_iff p).2 ⟨e, h, hp⟩)]

/-- With no test of the port RUNNING a release changes the record, the queue, the fault table and the last-trace pair
alone (R5 to R7). -/
theorem State.releasePort_of_other {s : State} {p : PortNo} (h : ∀ e, s.queue.running = some e → e.port ≠ p) :
    s.releasePort p =
      (((s.vacated p).setFaults (s.faults.filter (fun f => decide (f.port ≠ p)))).setEng
        (s.eng.forgetPair p)).setQueue (s.releasePort p).queue := by
  conv_lhs => rw [State.releasePort_eq_setQueue, State.cleared, State.released, State.detachIf_of_other h]
  rfl

/-- What a release leaves as it was, whatever runs (R5 to R7). -/
theorem State.releasePort_keeps {s : State} (hs : HoldInv s) (p : PortNo) :
    (s.releasePort p).sel = s.sel ∧ (s.releasePort p).office = s.office ∧
      (s.releasePort p).store.slots = s.store.slots ∧ (s.releasePort p).store.commits = s.store.commits ∧
      (s.releasePort p).hold.members = s.hold.members := by
  rw [State.releasePort_eq_setQueue]
  obtain ⟨hsel, hslots, hcommits, hmembers, -⟩ := State.detachIf_keeps hs p
  exact ⟨hsel, (s.detachIf_frame p).2.2.2, hslots, hcommits, hmembers⟩

theorem State.releasePort_ports (s : State) (p : PortNo) :
    (s.releasePort p).ports = s.ports.put p PortRecord.free := by
  rw [State.releasePort_eq_setQueue]
  exact s.cleared_ports p

theorem State.releasePort_faults (s : State) (p : PortNo) :
    (s.releasePort p).faults = s.faults.filter (fun f => decide (f.port ≠ p)) := by
  rw [State.releasePort_eq_setQueue]
  rfl

theorem State.releasePort_hold (s : State) (p : PortNo) : (s.releasePort p).hold = (s.detachIf p).hold := by
  rw [State.releasePort_eq_setQueue]
  rfl

/-! ### The state after the arbiter -/

/-- The arbiter waits for a busy engine (R30). -/
theorem State.arbitrate_of_busy {s : State} (h : s.eng.state ≠ .idle) : s.arbitrate = s :=
  State.arbitrate_of_choiceInv (choiceInv_of_busy h)

/-- The RUNNING test of another port goes on through a release, with no choice after it (R5). -/
theorem State.release_keeps_other {s : State} (hs : QueueInv s) {p : PortNo} {e : Entry}
    (he : s.queue.running = some e) (hp : e.port ≠ p) :
    (s.releasePort p).arbitrate = s.releasePort p ∧ (s.releasePort p).queue.running = some e ∧
      (s.releasePort p).eng = s.eng.forgetPair p := by
  obtain ⟨hform, hidle⟩ := (queueInv_iff s).1 hs
  have heng : (s.releasePort p).eng = s.eng.forgetPair p := by
    rw [State.releasePort_eng, State.detachIf_of_other]
    rintro x hx rfl
    rw [he] at hx
    cases hx
    exact hp rfl
  refine ⟨State.arbitrate_of_busy ?_, ?_, heng⟩
  · rw [heng, Engine.forgetPair_state]
    intro hi
    rw [hidle hi] at he
    cases he
  · rw [State.releasePort_running]
    exact hform.drop_running_stays he (decide_eq_false hp)

/-- The RUNNING test of the released port is detached; one that is parked ends at once (R6). -/
theorem State.release_detaches {s : State} (hs : QueueInv s) (hh : HoldInv s) {p : PortNo} {e : Entry}
    (he : s.queue.running = some e) (hp : e.port = p) (hbusy : s.eng.state ≠ .idle) :
    (s.releasePort p).arbitrate = s.releasePort p ∧ (s.releasePort p).queue.running = none ∧
      (s.eng.state ≠ .held → (s.releasePort p).eng.hand = .detached ∧
        (s.releasePort p).eng.state = s.eng.state ∧ (s.releasePort p).eng.snap = s.eng.snap) ∧
      (s.eng.state = .held → (s.releasePort p).eng.hand = .none ∧ (s.releasePort p).eng.state = .held ∧
        (s.releasePort p).eng.snap = none ∧ (s.releasePort p).hold.mark = false) := by
  have heng : (s.releasePort p).eng = s.detach.eng.forgetPair p := by
    rw [State.releasePort_eng, State.detachIf_of_own he hp]
  have hstate : s.detach.eng.state = s.eng.state := by
    by_cases h : s.eng.state = .held
    · rw [State.detach_of_held h (hh (.inl h))]
      rfl
    · rw [State.detach_of_not_held h]
      rfl
  refine ⟨State.arbitrate_of_busy ?_, ?_, fun h => ?_, fun h => ?_⟩
  · rwa [heng, Engine.forgetPair_state, hstate]
  · rw [State.releasePort_running]
    exact ((queueInv_iff s).1 hs).1.drop_running_leaves he (decide_eq_true hp)
  · rw [heng, Engine.forgetPair_eq, State.detach_of_not_held h]
    exact ⟨rfl, rfl, rfl⟩
  · rw [State.releasePort_hold, State.detachIf_of_own he hp, heng, Engine.forgetPair_eq,
      State.detach_of_held h (hh (.inl h))]
    exact ⟨rfl, h, rfl, rfl⟩

theorem doRelease_owned (c : Client) (v : Payload) (s : State) (p : PortNo) (h : v.toNat = p.val)
    (hp : (s.port p).claimant = some c) : doRelease c v s = (.plain .ok, (s.releasePort p).arbitrate) := by
  simp only [doRelease, ownedPort_of_claimant s c v p h hp]

end Sys2Proof.Machine

open Sys2Proof
open Sys2Proof.Machine

/-- Settles O20: the state before the arbiter is `s.releasePort p`, and the arbiter's choice touches none of the port's
things. -/
theorem releaseLeavesThePortClean : Obligations.ReleaseLeavesThePortClean := by
  intro s c tag port p h hport hc hs hh
  obtain ⟨t, ht, ha, htv⟩ := exec_answered (r := .release port) tag h nofun nofun (Request.length_of_namedPort rfl)
    (doRelease_owned c port s p hport hc)
  have hv : QueueInv (s.releasePort p) := (s.releasePort_work p).1.keeps (fun _ _ => Move.queueInv) hs
  have hkept := State.arbitrate_kept hv
  have hfree := State.arbitrate_freeOf hv (s.releasePort_freeOf p)
  obtain ⟨hsel, hoffice, hslots, hcommits, hmembers⟩ := State.releasePort_keeps hh p
  obtain ⟨hdrained, hkeptQueue⟩ := s.releasePort_queue p
  obtain ⟨hother, hfreed⟩ : (∀ q, q ≠ p → (s.releasePort p).arbitrate.port q = s.port q) ∧
      (s.releasePort p).arbitrate.port p = PortRecord.free := by
    simp only [State.port, hkept.ports, State.releasePort_ports, Tab.at_put_same, and_true]
    exact fun q hq => Tab.at_put_ne _ _ (Ne.symm hq)
  refine ⟨t, ht, ha, ⟨s.releasePort p, s.vacated p, htv, hsel, hoffice, rfl, hdrained, hkeptQueue, ?_⟩, ?_⟩
  · intro hnot pair hpairs
    have hp : (s.eng.forgetPair p).lastPair = pair :=
      Option.ext fun x => (s.eng.forgetPair_lastPair p x).trans (hpairs x).symm
    rw [← hp, ← Engine.forgetPair_eq]
    exact State.releasePort_of_other hnot
  rw [htv]
  refine ⟨fun e he hp => ?_, hfreed, hother, hfree.2, hkept.faults.trans (s.releasePort_faults p), hfree.1, fun x hx => ?_,
    hkept.slots.trans hslots, hkept.commits.trans hcommits, hkept.members.trans hmembers, fun e he hp hbusy => ?_⟩
  · obtain ⟨hidle, hrunning, heng⟩ := State.release_keeps_other hs he hp
    rw [hidle]
    refine ⟨hrunning, hsel, ?_⟩
    change (s.releasePort p).eng = { s.eng with lastPair := (s.releasePort p).eng.lastPair }
    rw [heng]
    exact Engine.forgetPair_eq ..
  · have hx : (s.releasePort p).eng.lastPair = some x := hkept.lastPair.symm.trans hx
    rw [State.releasePort_eng] at hx
    exact ((Engine.forgetPair_lastPair ..).1 hx).2
  · obtain ⟨hidle, hdetached⟩ := State.release_detaches hs hh he hp hbusy
    rw [hidle]
    exact hdetached
end

section
/-! SUPPORT. The requests of the test queue and the loss-of-light edge (chapter 2): what SCHEDULE, CANCEL and an edge
make of the state, case by case, with the changes of the queue written out, and the ticket issued. -/

namespace Sys2Proof.Machine

/-- A request that is taken is answered with what its block makes of it (R171). -/
theorem State.takeRequest_of_handle {s u : State} {c : Client} {r : Request} {x : Response} {single : Bool} (tag : Tag)
    (h : s.takes c) (hs : r ≠ .status) (hl : r ≠ .linkReset) (hlen : decide (r.length = 1) = single)
    (hu : handle c r s = (x, u)) :
    Answered s (s.takeRequest c tag r) c (s.linkAfter c single) r.code tag x ∧
      s.takeRequest c tag r = u.setHw (s.takeRequest c tag r).hw := by
  have ha := s.takeRequest_answered c tag r h hs hl
  rwa [hu, hlen] at ha

/-! ### Searches and changes written out -/

theorem TestQueue.findQueued_spec {q : TestQueue} {p : PortNo} {k : Kind} {e : Entry} (h : q.findQueued p k = some e) :
    e ∈ q.entries ∧ e.run = none ∧ e.port = p ∧ e.kind = k :=
  ⟨List.mem_of_find?_eq_some h, (e.waitsAs_iff p k).1 (List.find?_some (p := fun e : Entry => e.waitsAs p k) h)⟩

/-- The newest QUEUED ROUTINE has none behind it (R38). -/
theorem TestQueue.newestRoutine_eq_some {q : TestQueue} {older newer : List Entry} {e : Entry}
    (hq : q.entries = older ++ e :: newer) (hrun : e.run = none) (hkind : e.kind = .routine)
    (hnewer : ∀ x ∈ newer, ¬ (x.run = none ∧ x.kind = .routine)) : q.newestRoutine = some e := by
  rw [TestQueue.newestRoutine, hq, List.reverse_append, List.reverse_cons, List.append_assoc, List.find?_append,
    List.find?_eq_none.2 fun x hx => by simpa using hnewer x (List.mem_reverse.1 hx)]
  simp [hrun, hkind]

theorem TestQueue.newestRoutine_eq_none {q : TestQueue}
    (h : ∀ e ∈ q.entries, ¬ (e.run = none ∧ e.kind = .routine)) : q.newestRoutine = none :=
  List.find?_eq_none.2 fun e he => by simpa using h e (List.mem_reverse.1 he)

/-- An upgrade with the latch cleared (R23, R39). -/
theorem TestQueue.upgrade_setLatch (q : TestQueue) (p : PortNo) :
    (q.upgrade p).setLatch p false =
      { q with
        entries := q.entries.map (fun x =>
          if x.run = none ∧ x.port = p ∧ x.kind = .routine then { x with kind := .urgent } else x)
        latches := q.latches.put p false } := by
  simp only [TestQueue.upgrade, TestQueue.setLatch, Entry.waitsAs_iff]

/-- The QUEUED entry of a ticket leaves (R25, R38). -/
theorem TestQueue.drop_ticket (q : TestQueue) (n : Nat) :
    q.drop (fun x => decide (x.run = none) && decide (x.ticket = n)) =
      { q with entries := q.entries.filter (fun x => x.run.isSome || decide (x.ticket ≠ n)) } := by
  unfold TestQueue.drop
  congr 2
  funext x
  cases hx : x.run <;> simp [hx]

/-! ### SCHEDULE (R22 to R24) -/

/-- The kind a SCHEDULE names (R22). -/
theorem scheduledKind_of_val {kind band : Payload} {k : Kind}
    (h : k = .routine ∧ kind.toNat = 0 ∨ k = .urgent ∧ kind.toNat = 1 ∨
      k = .baseline .A ∧ kind.toNat = 2 ∧ band.toNat = 0 ∨ k = .baseline .B ∧ kind.toNat = 2 ∧ band.toNat = 1) :
    scheduledKind kind band = some k := by
  have hval : ∀ n, n < 2 ^ 30 → kind.toNat = n → kind = BitVec.ofNat 30 n := fun n hn => (payload_eq_iff kind n hn).2
  rcases h with ⟨rfl, h⟩ | ⟨rfl, h⟩ | ⟨rfl, h, hb⟩ | ⟨rfl, h, hb⟩
  · rw [hval 0 (by decide) h]
    rfl
  · rw [hval 1 (by decide) h]
    rfl
  · rw [hval 2 (by decide) h]
    simp [scheduledKind, bandOf_of_val band .A (.inl ⟨rfl, hb⟩)]
  · rw [hval 2 (by decide) h]
    simp [scheduledKind, bandOf_of_val band .B (.inr ⟨rfl, hb⟩)]

/-- A SCHEDULE that names no kind (R22 check 4). -/
theorem scheduledKind_eq_none {kind band : Payload} (h : 3 ≤ kind.toNat ∨ (kind.toNat = 2 ∧ 2 ≤ band.toNat)) :
    scheduledKind kind band = none := by
  have hval : ∀ n, n < 2 ^ 30 → (kind = BitVec.ofNat 30 n ↔ kind.toNat = n) := payload_eq_iff kind
  rw [scheduledKind, if_neg (by rw [hval 0 (by decide)]; omega), if_neg (by rw [hval 1 (by decide)]; omega)]
  split
  · rename_i h2
    rw [hval 2 (by decide)] at h2
    rw [bandOf_eq_none band (by omega)]
    rfl
  · rfl

theorem doSchedule_badValue (c : Client) (port kind band : Payload) (s : State) (p : PortNo) (h : port.toNat = p.val)
    (hc : (s.port p).claimant = some c) (hk : scheduledKind kind band = none) :
    doSchedule c port kind band s = (.plain .badValue, s) := by
  simp only [doSchedule, ownedPort_of_claimant s c port p h hc, hk]

theorem doSchedule_owned (c : Client) (port kind band : Payload) (s : State) (p : PortNo) (h : port.toNat = p.val)
    (hc : (s.port p).claimant = some c) {k : Kind} (hk : scheduledKind kind band = some k) :
    doSchedule c port kind band s = s.scheduleKind c p k := by
  simp only [doSchedule, ownedPort_of_claimant s c port p h hc, hk]

theorem State.scheduleKind_duplicate (s : State) (c : Client) (p : PortNo) {k : Kind} {e : Entry}
    (h : s.queue.findQueued p k = some e) : s.scheduleKind c p k = (.ticket .merged e.ticket, s) := by
  simp only [State.scheduleKind, h]

theorem State.scheduleKind_routine_of_urgent (s : State) (c : Client) (p : PortNo) {e : Entry}
    (h : s.queue.findQueued p .routine = none) (hu : s.queue.findQueued p .urgent = some e) :
    s.scheduleKind c p .routine = (.ticket .merged e.ticket, s) := by
  simp only [State.scheduleKind, h, hu]

theorem State.scheduleKind_urgent_of_routine (s : State) (c : Client) (p : PortNo) {e : Entry}
    (h : s.queue.findQueued p .urgent = none) (hr : s.queue.findQueued p .routine = some e) :
    s.scheduleKind c p .urgent =
      (.ticket .upgraded e.ticket, (s.setQueue ((s.queue.upgrade p).setLatch p false)).arbitrate) := by
  simp only [State.scheduleKind, h, hr]

/-- No QUEUED entry merges with it: a new entry is needed (R23). -/
theorem State.scheduleKind_new (s : State) (c : Client) (p : PortNo) {k : Kind} (h : s.queue.findQueued p k = none)
    (hu : k = .routine → s.queue.findQueued p .urgent = none)
    (hr : k = .urgent → s.queue.findQueued p .routine = none) : s.scheduleKind c p k = s.scheduleNew c p k := by
  cases k with
  | routine => simp only [State.scheduleKind, h, hu]
  | urgent => simp only [State.scheduleKind, h, hr]
  | baseline | confirm => simp only [State.scheduleKind, h]

theorem State.scheduleNew_full (s : State) (c : Client) (p : PortNo) (k : Kind)
    (h : Config.queueCapacity ≤ s.queue.entries.length) : s.scheduleNew c p k = (.plain .full, s) :=
  if_pos ((TestQueue.isFull_iff _).2 h)

theorem State.scheduleNew_share (s : State) (c : Client) (p : PortNo) (k : Kind)
    (h : s.queue.entries.length < Config.queueCapacity) (hs : Config.shareLimit ≤ s.queue.shareCount c) :
    s.scheduleNew c p k = (.plain .share, s) := by
  rw [State.scheduleNew, (TestQueue.isFull_eq_false _).2 h, if_neg Bool.false_ne_true, if_pos hs]

theorem State.scheduleNew_admitted (s : State) (c : Client) (p : PortNo) (k : Kind)
    (h : s.queue.entries.length < Config.queueCapacity) (hs : s.queue.shareCount c < Config.shareLimit) :
    s.scheduleNew c p k =
      (.ticket .ok s.queue.nextTicket,
        (s.setQueue ((s.queue.addEntry c p k .request).clearLatchFor p k)).arbitrate) := by
  rw [State.scheduleNew, (TestQueue.isFull_eq_false _).2 h, if_neg Bool.false_ne_true, if_neg (Nat.not_le.2 hs)]

/-- An admission by request, written out (R21, R24, R39). -/
theorem TestQueue.addEntry_clearLatchFor (q : TestQueue) (c : Client) (p : PortNo) (k : Kind) (o : Origin) :
    (q.addEntry c p k o).clearLatchFor p k =
      { q with
        entries := q.entries ++
          [{ ticket := q.nextTicket, client := c, port := p, kind := k, origin := o, run := none }]
        lastTicket := some q.nextTicket
        latches := if k = .urgent then q.latches.put p false else q.latches } := by
  unfold TestQueue.clearLatchFor
  split <;> rfl

/-! ### Tickets (R21) -/

/-- The search passes over held values alone, and stops at a value it reaches by taking the next one (R21). -/
theorem nextFreeTicket_eq_iterate (held : List Nat) (n t : Nat) :
    ∃ k, k ≤ n ∧ nextFreeTicket held n t = succTicket^[k] t ∧ ∀ m, m < k → succTicket^[m] t ∈ held := by
  induction n generalizing t with
  | zero => exact ⟨0, le_refl 0, rfl, nofun⟩
  | succ n ih =>
    rw [nextFreeTicket]
    split
    · rename_i hheld
      obtain ⟨k, hk, heq, hpassed⟩ := ih (succTicket t)
      refine ⟨k + 1, Nat.succ_le_succ hk, heq, fun m hm => ?_⟩
      cases m with
      | zero => exact List.contains_iff_mem.1 hheld
      | succ m => exact hpassed m (Nat.lt_of_succ_lt_succ hm)
    · exact ⟨0, Nat.zero_le _, rfl, nofun⟩

/-! ### CANCEL (R25, R26) -/

section
variable {s : State} {c : Client} {ticket : Payload} {e : Entry}

theorem doCancel_unknown (h : ∀ e ∈ s.queue.entries, e.ticket ≠ ticket.toNat) :
    doCancel c ticket s = (.plain .unknown, s) := by
  have hnone : s.queue.entries.find? (fun e => decide (e.ticket = ticket.toNat)) = none :=
    List.find?_eq_none.2 fun e he => by simpa using h e he
  simp only [doCancel, hnone]

variable (h : s.queue.entries.find? (fun x => decide (x.ticket = ticket.toNat)) = some e)
include h

theorem doCancel_notOwner (hc : e.client ≠ c) : doCancel c ticket s = (.plain .notOwner, s) := by
  simp only [doCancel, h, if_neg hc]

theorem doCancel_queued (hc : e.client = c) (hr : e.run = none) :
    doCancel c ticket s = (.plain .ok, (s.cancelQueued e).arbitrate) := by
  simp only [doCancel, h, if_pos hc, hr]

theorem doCancel_running (hc : e.client = c) {ri : RunInfo} (hr : e.run = some ri) :
    doCancel c ticket s = s.cancelRunning ri := by
  simp only [doCancel, h, if_pos hc, hr]

end

theorem State.cancelRunning_pending (s : State) {ri : RunInfo} (h : ri.cancelPending = true) :
    s.cancelRunning ri = (.plain .ok, s) :=
  if_pos h

theorem State.cancelRunning_analyse (s : State) {ri : RunInfo} (h : ri.cancelPending = false)
    (hs : s.eng.state = .analyse) : s.cancelRunning ri = (.plain .tooLate, s) := by
  simp only [State.cancelRunning, h, hs, Bool.false_eq_true, if_false]

theorem State.cancelRunning_held (s : State) {ri : RunInfo} (h : ri.cancelPending = false)
    (hs : s.eng.state = .held) : s.cancelRunning ri = (.plain .ok, s.clearMark.cancelTest.arbitrate) := by
  simp only [State.cancelRunning, h, hs, Bool.false_eq_true, if_false]

theorem State.cancelRunning_later (s : State) {ri : RunInfo} (h : ri.cancelPending = false)
    (ha : s.eng.state ≠ .analyse) (hh : s.eng.state ≠ .held) :
    s.cancelRunning ri = (.plain .ok, s.setCancelPending) := by
  rw [State.cancelRunning, h, if_neg Bool.false_ne_true]
  split
  case h_1 hs => exact absurd hs ha
  case h_2 hs => exact absurd hs hh
  all_goals rfl

/-- A QUEUED entry that is cancelled leaves its result, and the latch drain runs (R25, R40). -/
theorem State.cancelQueued_eq (s : State) {e : Entry} (he : e ∈ s.queue.entries) (hr : e.run = none) :
    s.cancelQueued e =
      ((s.setPort e.port { s.port e.port with
          result := some (queuedResult e .cancelled s.office.clock), unread := true }).setQueue
        { s.queue with
          entries := s.queue.entries.filter (fun x => x.run.isSome || decide (x.ticket ≠ e.ticket)) }).drain := by
  rw [State.cancelQueued, State.depart, State.writeResult_queue, if_pos (List.any_eq_true.2 ⟨e, he, by simp [hr]⟩),
    TestQueue.drop_ticket]
  rfl

/-- The result of a cancelled entry stands after the arbiter's chance (R15, R25). -/
theorem State.cancelQueued_result {s : State} (hs : QueueInv s) {e : Entry} (he : e ∈ s.queue.entries) :
    (s.cancelQueued e).arbitrate.port e.port =
      { s.port e.port with result := some (queuedResult e .cancelled s.office.clock), unread := true } := by
  have hq : QueueInv (s.cancelQueued e) := (s.cancelQueued_work e he).moves.keeps (fun _ _ => Move.queueInv) hs
  rw [State.port, (State.arbitrate_kept hq).ports, State.cancelQueued, State.depart_ports]
  exact State.setPort_port_same ..

/-! ### Loss of light (R36 to R38) -/

theorem execLosEdge_ignored (s : State) (p : PortNo)
    (h : (s.port p).claimant = none ∨ (s.port p).profile.losEnable = false) : execLosEdge p s = .next s := by
  unfold execLosEdge
  split
  · rfl
  · rename_i c hc
    rw [h.resolve_left (by simp [hc]), if_neg Bool.false_ne_true]

theorem execLosEdge_taken (s : State) (p : PortNo) {c : Client} (hc : (s.port p).claimant = some c)
    (h : (s.port p).profile.losEnable = true) : execLosEdge p s = .next (s.takeLos p c) := by
  simp only [execLosEdge, hc, h, if_true]

section
variable (s : State) (p : PortNo) (c : Client)

theorem State.takeLos_absorbed (h : (s.queue.findQueued p .urgent).isSome = true) : s.takeLos p c = s :=
  if_pos h

variable (hu : s.queue.findQueued p .urgent = none)
include hu

theorem State.takeLos_upgrade (hr : (s.queue.findQueued p .routine).isSome = true) :
    s.takeLos p c = (s.setQueue ((s.queue.upgrade p).setLatch p false)).arbitrate := by
  rw [State.takeLos, hu, if_neg (by simp), if_pos hr]

variable (hr : s.queue.findQueued p .routine = none)
include hr

theorem State.takeLos_latched (h : s.queue.urgentRunning p = true) :
    s.takeLos p c = s.setQueue (s.queue.setLatch p true) := by
  rw [State.takeLos, hu, hr, if_neg (by simp), if_neg (by simp), if_pos h]

variable (hrun : s.queue.urgentRunning p = false)
include hrun

theorem State.takeLos_admitted (h : s.queue.entries.length < 32) : s.takeLos p c = (s.admitLos p c).arbitrate := by
  rw [State.takeLos, hu, hr, hrun, (TestQueue.isFull_eq_false _).2 h, if_neg (by simp), if_neg (by simp),
    if_neg (by simp), if_neg (by simp)]

theorem State.takeLos_evicting (h : 32 ≤ s.queue.entries.length) {e : Entry} (he : s.queue.newestRoutine = some e) :
    s.takeLos p c = ((s.evict e).admitLos p c).arbitrate := by
  rw [State.takeLos, hu, hr, hrun, (TestQueue.isFull_iff _).2 h, if_neg (by simp), if_neg (by simp),
    if_neg (by simp), if_pos rfl, he]

theorem State.takeLos_waits (h : 32 ≤ s.queue.entries.length) (he : s.queue.newestRoutine = none) :
    s.takeLos p c = s.setQueue (s.queue.setLatch p true) := by
  rw [State.takeLos, hu, hr, hrun, (TestQueue.isFull_iff _).2 h, if_neg (by simp), if_neg (by simp),
    if_neg (by simp), if_pos rfl, he]

end

/-- An eviction, written out (R38). -/
theorem State.evict_eq (s : State) (e : Entry) :
    s.evict e =
      (s.setPort e.port { s.port e.port with
          result := some (queuedResult e .evicted s.office.clock), unread := true }).setQueue
        { s.queue with
          entries := s.queue.entries.filter (fun x => x.run.isSome || decide (x.ticket ≠ e.ticket)) } := by
  rw [State.evict, State.writeResult_queue, TestQueue.drop_ticket]
  rfl

end Sys2Proof.Machine

open Sys2Proof
open Sys2Proof.Machine

/-- Settles O24: the request passes the checks of R3, and `State.scheduleKind` decides by the QUEUED entries of the
port, then by the room and the client's share. -/
theorem scheduleFollowsItsChecks : Obligations.ScheduleFollowsItsChecks := by
  intro s c tag port kind band p h hport hc
  have hanswer : ∀ {x u}, doSchedule c port kind band s = (x, u) →
      Answered s (s.takeRequest c tag (.schedule port kind band)) c (s.linkAfter c false) 6 tag x ∧
        s.takeRequest c tag (.schedule port kind band) =
          u.setHw (s.takeRequest c tag (.schedule port kind band)).hw :=
    fun hu => State.takeRequest_of_handle (r := .schedule port kind band) tag h nofun nofun rfl hu
  refine ⟨s.takeRequest c tag (.schedule port kind band), rfl, fun hbad =>
    hanswer (doSchedule_badValue c port kind band s p hport hc (scheduledKind_eq_none hbad)), fun k hk => ?_⟩
  have hkind := doSchedule_owned c port kind band s p hport hc (scheduledKind_of_val hk)
  refine ⟨fun e he => ⟨TestQueue.findQueued_spec he, hanswer (hkind.trans (s.scheduleKind_duplicate c p he))⟩, ?_, ?_, ?_⟩
  · rintro rfl hr e hu
    exact hanswer (hkind.trans (s.scheduleKind_routine_of_urgent c p hr hu))
  · rintro rfl hu e hr
    rw [← TestQueue.upgrade_setLatch]
    exact hanswer (hkind.trans (s.scheduleKind_urgent_of_routine c p hu hr))
  · intro hsame hurgent hroutine
    have hnew := hkind.trans (s.scheduleKind_new c p hsame hurgent hroutine)
    refine ⟨fun hfull => hanswer (hnew.trans (s.scheduleNew_full c p k hfull)),
      fun hroom hshare => hanswer (hnew.trans (s.scheduleNew_share c p k hroom hshare)), fun hroom hshare => ?_⟩
    rw [← TestQueue.addEntry_clearLatchFor]
    exact hanswer (hnew.trans (s.scheduleNew_admitted c p k hroom hshare))

/-- Settles O25: among one value more than there are entries one is free, and the search finds the first of them. -/
theorem ticketIssuedIsTheNextFreeOne : Obligations.TicketIssuedIsTheNextFreeOne := by
  refine ⟨fun n => ⟨fun hn => if_neg (Nat.not_le.2 hn), fun hn => if_pos hn⟩, fun q hlen => ?_⟩
  have hfresh := q.nextTicket_fresh (Nat.lt_of_le_of_lt hlen (by decide))
  obtain ⟨hlow, hhigh⟩ := q.nextTicket_range
  obtain ⟨n, hn, heq, hpassed⟩ := nextFreeTicket_eq_iterate (q.entries.map (fun e => e.ticket)) q.entries.length
    (succTicket (q.lastTicket.getD 0))
  exact ⟨fun e he heq => hfresh (heq ▸ List.mem_map_of_mem he), hlow, hhigh, n, hn.trans hlen, heq,
    fun m hm => List.mem_map.1 (hpassed m hm)⟩

/-- Settles O26: `doCancel` decides by the entry of the ticket, and `State.cancelRunning` by the engine's state. -/
theorem cancelFollowsTheEntry : Obligations.CancelFollowsTheEntry := by
  intro s c tag ticket h
  have hanswer : ∀ {x u}, doCancel c ticket s = (x, u) →
      Answered s (s.takeRequest c tag (.cancel ticket)) c (s.linkAfter c false) 7 tag x ∧
        s.takeRequest c tag (.cancel ticket) = u.setHw (s.takeRequest c tag (.cancel ticket)).hw :=
    fun hu => State.takeRequest_of_handle (r := .cancel ticket) tag h nofun nofun rfl hu
  refine ⟨s.takeRequest c tag (.cancel ticket), rfl, fun hnone => hanswer (doCancel_unknown hnone), fun e he => ?_⟩
  have hmem := List.mem_of_find?_eq_some he
  refine ⟨fun hc => hanswer (doCancel_notOwner he hc), fun hc hrun => ?_, fun ri hc hrun => ?_⟩
  · obtain ⟨ha, ht⟩ := hanswer (doCancel_queued he hc hrun)
    rw [← s.cancelQueued_eq hmem hrun]
    refine ⟨ha, ht, fun hs => ?_⟩
    rw [ht, State.setHw_port, State.cancelQueued_result hs hmem]
    exact ⟨rfl, rfl⟩
  · have hrunning := doCancel_running he hc hrun
    exact ⟨fun hp => hanswer (hrunning.trans (s.cancelRunning_pending hp)),
      fun hp hs => hanswer (hrunning.trans (s.cancelRunning_analyse hp hs)),
      fun hp hs => hanswer (hrunning.trans (s.cancelRunning_held hp hs)),
      fun hp ha hh => hanswer (hrunning.trans (s.cancelRunning_later hp ha hh))⟩

/-- Settles O28: without a claimant, or with the enable off, the edge is not taken. -/
theorem ignoredLosEdgeChangesNothing : Obligations.IgnoredLosEdgeChangesNothing :=
  fun s p h => execLosEdge_ignored s p h

/-- Settles O29: the edge is taken, and each line of R37's table is a case of `State.takeLos`. -/
theorem losEdgeFollowsItsTable : Obligations.LosEdgeFollowsItsTable := by
  intro s p c hc henable
  refine ⟨s.takeLos p c, execLosEdge_taken s p hc henable, s.takeLos_absorbed p c, fun hu =>
    ⟨s.takeLos_upgrade p c hu, fun hr => ⟨s.takeLos_latched p c hu hr, fun hrun =>
      ⟨s.takeLos_admitted p c hu hr hrun, fun hfull => ⟨fun older e newer hq hqueued hkind hnewer => ?_, fun hnone =>
        s.takeLos_waits p c hu hr hrun hfull (TestQueue.newestRoutine_eq_none hnone)⟩⟩⟩⟩⟩
  rw [s.takeLos_evicting p c hu hr hrun hfull (TestQueue.newestRoutine_eq_some hq hqueued hkind hnewer),
    State.evict_eq]
  rfl
end

section
/-! SUPPORT. The latch drain (R40): what its work on one port is, case by case, and what the whole drain keeps. -/

namespace Sys2Proof.Machine

/-! ### The work on one port -/

/-- An URGENT entry of the port is QUEUED. -/
def TestQueue.UrgentWaits (q : TestQueue) (p : PortNo) : Prop :=
  ∃ e ∈ q.entries, e.run = none ∧ e.port = p ∧ e.kind = .urgent

theorem TestQueue.findQueued_isSome (q : TestQueue) (p : PortNo) (k : Kind) :
    (q.findQueued p k).isSome = true ↔ ∃ e ∈ q.entries, e.run = none ∧ e.port = p ∧ e.kind = k := by
  simp only [TestQueue.findQueued, List.find?_isSome, Entry.waitsAs_iff]

theorem State.drainPort_skips {s : State} {p : PortNo}
    (h : s.queue.latches.at p = false ∨ s.queue.isFull = true ∨ s.queue.urgentRunning p = true) :
    s.drainPort p = s :=
  if_pos h

section
variable {s : State} {p : PortNo} (hl : s.queue.latches.at p = true) (hf : s.queue.isFull = false)
  (hr : s.queue.urgentRunning p = false)
include hl hf hr

theorem State.drainPort_clears (hu : (s.queue.findQueued p .urgent).isSome = true) :
    s.drainPort p = s.setQueue (s.queue.setLatch p false) := by
  rw [State.drainPort, if_neg (by simp [hl, hf, hr]), if_pos hu]

variable (hu : s.queue.findQueued p .urgent = none)
include hu

theorem State.drainPort_upgrades (hq : (s.queue.findQueued p .routine).isSome = true) :
    s.drainPort p = s.setQueue ((s.queue.upgrade p).setLatch p false) := by
  rw [State.drainPort, if_neg (by simp [hl, hf, hr]), if_neg (by simp [hu]), if_pos hq]

theorem State.drainPort_admits (hq : s.queue.findQueued p .routine = none) {c : Client}
    (hc : (s.port p).claimant = some c) :
    s.drainPort p = s.setQueue ((s.queue.addEntry c p .urgent .los).setLatch p false) := by
  rw [State.drainPort, if_neg (by simp [hl, hf, hr]), if_neg (by simp [hu]), if_neg (by simp [hq]), hc]

end

/-! ### The changes of the queue a drain is made of -/

theorem TestQueue.upgrade_urgentWaits {q : TestQueue} {p : PortNo}
    (h : ∃ e ∈ q.entries, e.run = none ∧ e.port = p ∧ e.kind = .routine) : (q.upgrade p).UrgentWaits p := by
  obtain ⟨e, he, hw⟩ := h
  refine ⟨e.upgraded p, List.mem_map_of_mem he, (e.upgraded_run p).trans hw.1, (e.upgraded_port p).trans hw.2.1, ?_⟩
  rw [Entry.upgraded, if_pos ((e.waitsAs_iff p .routine).2 hw)]

theorem TestQueue.addEntry_urgentWaits (q : TestQueue) (c : Client) (p : PortNo) (o : Origin) :
    (q.addEntry c p .urgent o).UrgentWaits p :=
  ⟨q.newEntry c p .urgent o, List.mem_append_right _ (List.mem_singleton_self _), rfl, rfl, rfl⟩

/-- An upgrade leaves an entry that is no ROUTINE of the port QUEUED as it was (R23). -/
theorem Entry.upgraded_of_not {e : Entry} {p : PortNo} (h : ¬ (e.run = none ∧ e.port = p ∧ e.kind = .routine)) :
    e.upgraded p = e :=
  if_neg (mt (e.waitsAs_iff p .routine).1 h)

theorem Entry.upgraded_of_running {e : Entry} (p : PortNo) (h : e.run.isSome = true) : e.upgraded p = e :=
  Entry.upgraded_of_not fun ⟨hn, _⟩ => by simp [hn] at h

/-- What a change of the entries by the drain keeps: the QUEUED URGENTs, the RUNNING entries and the latches; and it
adds one entry at most. -/
structure TestQueue.Drains (q r : TestQueue) : Prop where
  urgent : ∀ p, q.UrgentWaits p → r.UrgentWaits p
  running : ∀ e : Entry, e.run.isSome = true → (e ∈ r.entries ↔ e ∈ q.entries)
  length : r.entries.length ≤ q.entries.length + 1
  latches : r.latches = q.latches

theorem TestQueue.Drains.refl (q : TestQueue) : q.Drains q := ⟨fun _ => id, fun _ _ => .rfl, Nat.le_succ _, rfl⟩

theorem TestQueue.upgrade_drains (q : TestQueue) (p : PortNo) : q.Drains (q.upgrade p) where
  urgent := by
    rintro r ⟨e, he, hrun, hport, hkind⟩
    have hsame : e.upgraded p = e := Entry.upgraded_of_not fun ⟨_, _, hk⟩ => by simp [hk] at hkind
    exact ⟨e, hsame ▸ List.mem_map_of_mem (f := fun e : Entry => e.upgraded p) he, hrun, hport, hkind⟩
  running := by
    intro e hrun
    rw [TestQueue.upgrade_entries, List.mem_map]
    constructor
    · rintro ⟨x, hx, rfl⟩
      rw [Entry.upgraded_run] at hrun
      rwa [Entry.upgraded_of_running p hrun]
    · exact fun he => ⟨e, he, Entry.upgraded_of_running p hrun⟩
  length := by simp [TestQueue.upgrade_entries]
  latches := rfl

theorem TestQueue.addEntry_drains (q : TestQueue) (c : Client) (p : PortNo) (k : Kind) (o : Origin) :
    q.Drains (q.addEntry c p k o) where
  urgent := fun _ ⟨e, he, hw⟩ => ⟨e, List.mem_append_left _ he, hw⟩
  running := by
    intro e hrun
    rw [TestQueue.addEntry_entries, List.mem_append, List.mem_singleton, or_iff_left]
    rintro rfl
    cases hrun
  length := by simp
  latches := rfl

/-- The drain's work on one port: none, or the latch is cleared with an URGENT of the port QUEUED and room for one more
entry before (R40). -/
theorem State.drainPort_cases (s : State) (p : PortNo) :
    s.drainPort p = s ∨ s.queue.isFull = false ∧
      ∃ q, s.drainPort p = s.setQueue (q.setLatch p false) ∧ q.UrgentWaits p ∧ s.queue.Drains q := by
  by_cases hskip : s.queue.latches.at p = false ∨ s.queue.isFull = true ∨ s.queue.urgentRunning p = true
  · exact .inl (State.drainPort_skips hskip)
  obtain ⟨hl, hf, hr⟩ : s.queue.latches.at p = true ∧ s.queue.isFull = false ∧ s.queue.urgentRunning p = false := by
    simpa only [not_or, Bool.not_eq_true, Bool.not_eq_false] using hskip
  cases hu : s.queue.findQueued p .urgent with
  | some e =>
    have hu : (s.queue.findQueued p .urgent).isSome = true := by rw [hu]; rfl
    exact .inr ⟨hf, s.queue, State.drainPort_clears hl hf hr hu, (s.queue.findQueued_isSome p _).1 hu, .refl _⟩
  | none =>
    cases hq : s.queue.findQueued p .routine with
    | some e =>
      have hq : (s.queue.findQueued p .routine).isSome = true := by rw [hq]; rfl
      exact .inr ⟨hf, _, State.drainPort_upgrades hl hf hr hu hq,
        TestQueue.upgrade_urgentWaits ((s.queue.findQueued_isSome p _).1 hq), s.queue.upgrade_drains p⟩
    | none =>
      cases hc : (s.port p).claimant with
      | some c =>
        exact .inr ⟨hf, _, State.drainPort_admits hl hf hr hu hq hc, s.queue.addEntry_urgentWaits c p .los,
          s.queue.addEntry_drains c p .urgent .los⟩
      | none =>
        left
        rw [State.drainPort, if_neg hskip, if_neg (by simp [hu]), if_neg (by simp [hq]), hc]

/-! ### The whole drain -/

/-- What the work on each port keeps, the drain keeps. -/
theorem State.drain_keeps {P : State → Prop} (hP : ∀ s p, P s → P (s.drainPort p)) {s : State} (hs : P s) :
    P s.drain :=
  List.foldlRecOn portList State.drainPort hs fun t ht p _ => hP t p ht

/-- The drain sets no latch (R40). -/
theorem State.drain_grows (s : State) : s.queue.Grows s.drain.queue :=
  State.drain_keeps (P := fun t => s.queue.Grows t.queue) (fun t p ht => ht.trans (t.drainPort_grows p)) (.refl _)

/-- The drain touches no RUNNING entry (R40). -/
theorem State.drain_mem_running (s : State) {e : Entry} (he : e.run.isSome = true) :
    e ∈ s.drain.queue.entries ↔ e ∈ s.queue.entries := by
  refine State.drain_keeps (P := fun t => e ∈ t.queue.entries ↔ e ∈ s.queue.entries) (fun t p ht => ?_) .rfl
  rcases t.drainPort_cases p with h | ⟨-, q, h, -, hq⟩
  · rwa [h]
  · rw [h]
    exact (hq.running e he).trans ht

/-- The drain does not go past the queue's capacity (R40). -/
theorem State.drain_length (s : State) :
    s.drain.queue.entries.length ≤ max Config.queueCapacity s.queue.entries.length := by
  refine State.drain_keeps (P := fun t => t.queue.entries.length ≤ max Config.queueCapacity s.queue.entries.length)
    (fun t p ht => ?_) (le_max_right _ _)
  rcases t.drainPort_cases p with h | ⟨hroom, q, h, -, hq⟩
  · rwa [h]
  · rw [h]
    exact (hq.length.trans ((TestQueue.isFull_eq_false _).1 hroom)).trans (le_max_left _ _)

/-- A latch the drain clears has become a QUEUED URGENT of its port (R40). -/
theorem State.drain_cleared (s : State) (p : PortNo) (hs : s.queue.latches.at p = true)
    (hd : s.drain.queue.latches.at p = false) : s.drain.queue.UrgentWaits p := by
  refine (State.drain_keeps (P := fun t => t.queue.latches.at p = true ∨ t.queue.UrgentWaits p) (fun t r ht => ?_)
    (.inl hs)).resolve_left (by simp [hd])
  rcases t.drainPort_cases r with h | ⟨-, q, h, hw, hq⟩
  · rwa [h]
  · rw [h]
    rcases ht with ht | ht
    · by_cases hrp : r = p
      · exact .inr (hrp ▸ hw)
      · left
        rw [State.setQueue_queue, TestQueue.setLatch_at, if_neg hrp, hq.latches]
        exact ht
    · exact .inr (hq.urgent p ht)

/-- A set latch waits for room or for the port's running URGENT, or its port is unclaimed. -/
def State.LatchWaits (s : State) (p : PortNo) : Prop :=
  s.queue.latches.at p = true →
    s.queue.isFull = true ∨ s.queue.urgentRunning p = true ∨ (s.port p).claimant = none

theorem State.drainPort_latchWaits (s : State) (p : PortNo) : (s.drainPort p).LatchWaits p := by
  intro hl
  rw [s.drainPort_port p p]
  by_cases hc : (s.port p).claimant.isSome = true
  · rcases s.drainPort_serves p (fun _ => hc) hl with h | h
    · exact .inr (.inl h)
    · exact .inl h
  · exact .inr (.inr (by simpa using hc))

theorem State.LatchWaits.drainPort {s : State} {p : PortNo} (h : s.LatchWaits p) (r : PortNo) :
    (s.drainPort r).LatchWaits p := by
  intro hl
  have hg := s.drainPort_grows r
  rw [s.drainPort_port r p]
  exact (h (hg.latches p hl)).imp hg.full (.imp_left (hg.running p))

/-- After the drain a latch that is still set waits (R40). -/
theorem State.drain_latchWaits (s : State) (p : PortNo) : s.drain.LatchWaits p := by
  have h : ∀ (l : List PortNo) (t : State), p ∈ l ∨ t.LatchWaits p → (l.foldl State.drainPort t).LatchWaits p := by
    intro l
    induction l with
    | nil => exact fun t ht => ht.resolve_left List.not_mem_nil
    | cons r l ih =>
      refine fun t ht => ih _ ?_
      rcases ht with ht | ht
      · rcases List.mem_cons.1 ht with rfl | ht
        · exact .inr (t.drainPort_latchWaits p)
        · exact .inl ht
      · exact .inr (ht.drainPort r)
  exact h portList s (.inl (List.mem_finRange p))

end Sys2Proof.Machine

open Sys2Proof
open Sys2Proof.Machine

/-- Settles O30: what the drain keeps follows from its work on one port; the ports are served by `State.drainPort`. -/
theorem latchDrainServesTheLatches : Obligations.LatchDrainServesTheLatches := by
  intro s
  refine ⟨s.drain_eq, fun p hp => ⟨s.drain_grows.latches p hp, ?_⟩, s.drain_cleared, s.drain_length,
    fun e he => s.drain_mem_running he, State.drainPort, rfl, fun u p => ⟨fun hskip => ?_, fun hl hroom hrunning => ?_⟩⟩
  · have hw := s.drain_latchWaits p hp
    rwa [State.drain_port] at hw
  · rw [← TestQueue.urgentRunning_iff] at hskip
    exact State.drainPort_skips (hskip.imp_right (.imp_left (TestQueue.isFull_iff _).2))
  · have hf : u.queue.isFull = false := (TestQueue.isFull_eq_false _).2 hroom
    have hr : u.queue.urgentRunning p = false := by
      rw [← Bool.not_eq_true, TestQueue.urgentRunning_iff]
      exact fun ⟨e, he, hw⟩ => hrunning e he hw
    refine ⟨fun hu => State.drainPort_clears hl hf hr ((TestQueue.findQueued_isSome ..).2 hu), fun hu => ?_⟩
    have hu := (TestQueue.findQueued_eq_none ..).2 hu
    refine ⟨fun hq => ?_, fun hq c hc => ?_⟩
    · rw [← TestQueue.upgrade_setLatch]
      exact State.drainPort_upgrades hl hf hr hu ((TestQueue.findQueued_isSome ..).2 hq)
    · exact State.drainPort_admits hl hf hr hu ((TestQueue.findQueued_eq_none ..).2 hq) hc
end

section
/-! SUPPORT. The arbiter (R29 to R33): when an entry is eligible, which entry is chosen, and what the start of the chosen
test makes of the state, with the position request by the selector's state (R59). -/

namespace Sys2Proof.Machine

/-! ### The round-robin pointer (R32) -/

@[simp] theorem State.drain_pointer (s : State) : s.drain.queue.pointer = s.queue.pointer := by
  refine State.drain_keeps (P := fun t => t.queue.pointer = s.queue.pointer) (fun t p ht => ?_) rfl
  unfold State.drainPort
  (repeat' split) <;> exact ht

theorem State.testGone_pointer (s : State) (e : Entry) (x : ResultRecord) (asks : Prop) [Decidable asks] :
    (s.testGone e x asks).queue.pointer = s.queue.pointer := by
  unfold State.testGone State.admitConfirm
  dsimp only
  (repeat' split) <;> rfl

@[simp] theorem State.endTest_pointer (s : State) (status : Status) (cause : Option Cause) (r : Report) (full : Bool) :
    (s.endTest status cause r full).queue.pointer = s.queue.pointer := by
  cases h : s.queue.running with
  | none =>
    rw [s.endTest_of_none h]
    simp
  | some e =>
    obtain ⟨ri, hri⟩ := Option.isSome_iff_exists.1 (TestQueue.running_eq_some h).2
    rw [s.endTest_of_running h hri]
    simp [State.testGone_pointer]

/-- No change of the test in hand moves the pointer (R32). -/
theorem TestMoves.pointer {s t : State} (h : TestMoves s t) : t.queue.pointer = s.queue.pointer := by
  refine h.keeps (P := fun u => u.queue.pointer = s.queue.pointer) (fun u v hm hu => ?_) rfl
  cases hm with
  | quiet _ queue => rwa [queue]
  | setRun f => exact hu
  | endTest => rwa [State.endTest_pointer]

/-- The chosen test's start puts the pointer where the choice has it (R31, R32). -/
theorem State.startTest_pointer (s : State) (e : Entry) (pointer : Client) :
    (s.startTest e pointer).queue.pointer = pointer :=
  (State.requestPosition_testMoves (s.prepared e pointer) e.port).pointer

/-! ### Eligibility (R29, R30) -/

theorem mem_bufferNumbers (i : Fin 4) : i ∈ bufferNumbers := by
  revert i
  decide

theorem Store.freeBuffer_isSome (st : Store) : st.freeBuffer.isSome = true ↔ ∃ i, st.buffers.at i = .free := by
  simp [Store.freeBuffer, mem_bufferNumbers]

theorem Store.reservedBuffer_eq_none (st : Store) :
    st.reservedBuffer = none ↔ ∀ i, st.buffers.at i ≠ .reserved := by
  simp [Store.reservedBuffer, mem_bufferNumbers]

/-- The commit queue has room: fewer than three entries, or three and no buffer reserved (R146). -/
theorem Store.isFull_eq_false (st : Store) :
    st.isFull = false ↔ st.commits.length < 3 ∨ st.commits.length = 3 ∧ ∀ i, st.buffers.at i ≠ .reserved := by
  rw [← Store.reservedBuffer_eq_none, Store.isFull, decide_eq_false_iff_not, Store.occupancy, Config.commitCapacity]
  cases st.reservedBuffer with
  | none => simp only [Option.isSome_none, Bool.false_eq_true, if_false, and_true]; omega
  | some i => simp only [Option.isSome_some, if_true, reduceCtorEq, and_false, or_false]; omega

theorem BandSet.nonempty_iff (x : BandSet) : x.nonempty = true ↔ x.a = true ∨ x.b = true := by
  simp [BandSet.nonempty]

theorem Kind.isBaseline_iff (k : Kind) : k.isBaseline = true ↔ ∃ b, k = .baseline b := by
  cases k <;> simp [Kind.isBaseline]

theorem State.eligible_iff (s : State) (e : Entry) :
    s.eligible e = true ↔ e.run = none ∧ (s.resolve e.port e.kind).nonempty = true ∧
      (e.kind.isBaseline = true → s.store.freeBuffer.isSome = true ∧ s.store.isFull = false) := by
  cases h : e.kind.isBaseline <;> simp [State.eligible, h, and_assoc]

theorem State.arbitrate_of_not_mayChoose {s : State} (h : s.mayChoose = false) : s.arbitrate = s := by
  rw [State.arbitrate, h, if_neg Bool.false_ne_true]

/-! ### The choice (R31, R32) -/

theorem State.arbitrate_of_choose {s : State} (hm : s.mayChoose = true) {e : Entry} {pointer : Client}
    (h : s.choose = some (e, pointer)) : s.arbitrate = s.startTest e pointer := by
  rw [State.arbitrate, if_pos hm, h]

/-- The oldest entry with a property is the one with no such entry before it. -/
theorem find?_oldest {es older newer : List Entry} {e : Entry} (f : Entry → Bool) (hq : es = older ++ e :: newer)
    (he : f e = true) (h : ∀ x ∈ older, f x = false) : es.find? f = some e :=
  List.find?_eq_some_iff_append.2 ⟨he, older, newer, hq, fun x hx => by simp [h x hx]⟩

theorem State.choose_of_urgent {s : State} {e : Entry} (h : s.eligibleUrgent = some e) :
    s.choose = some (e, s.queue.pointer) := by
  simp only [State.choose, h]

theorem State.eligibleUrgent_eq_none {s : State}
    (h : ∀ x ∈ s.queue.entries, ¬ (x.kind = .urgent ∧ s.eligible x = true)) : s.eligibleUrgent = none :=
  List.find?_eq_none.2 fun x hx => by simpa using h x hx

/-- A client with no eligible entry has none in its turn (R32). -/
theorem State.turnEntry_eq_none {s : State} {c : Client}
    (h : ∀ x ∈ s.queue.entries, x.client = c → s.eligible x = false) : s.turnEntry c = none := by
  have hfind : ∀ f : Entry → Bool,
      s.queue.entries.find? (fun e => decide (e.client = c) && f e && s.eligible e) = none := fun f =>
    List.find?_eq_none.2 fun x hx => by
      by_cases hc : x.client = c
      · simp [h x hx hc]
      · simp [hc]
  rw [State.turnEntry, hfind (fun e => decide (e.kind = .confirm))]
  exact hfind (fun e => decide (e.kind = .routine) || e.kind.isBaseline)

section
variable {s : State} {c : Client} {older newer : List Entry} {e : Entry} (hq : s.queue.entries = older ++ e :: newer)
  (hc : e.client = c) (he : s.eligible e = true)
include hq hc he

/-- The oldest eligible CONFIRM goes first (R32). -/
theorem State.turnEntry_confirm (hk : e.kind = .confirm)
    (h : ∀ x ∈ older, ¬ (x.client = c ∧ x.kind = .confirm ∧ s.eligible x = true)) : s.turnEntry c = some e := by
  have hfind : s.queue.entries.find?
      (fun e => decide (e.client = c) && decide (e.kind = .confirm) && s.eligible e) = some e :=
    find?_oldest _ hq (by simp [hc, hk, he]) fun x hx => by simpa [and_assoc] using h x hx
  simp only [State.turnEntry, hfind]

/-- Without an eligible CONFIRM, the oldest eligible BASELINE or ROUTINE goes (R32). -/
theorem State.turnEntry_other (hu : e.kind ≠ .urgent) (hk : e.kind ≠ .confirm)
    (hconfirm : ∀ x ∈ s.queue.entries, ¬ (x.client = c ∧ x.kind = .confirm ∧ s.eligible x = true))
    (h : ∀ x ∈ older, ¬ (x.client = c ∧ s.eligible x = true)) : s.turnEntry c = some e := by
  have hnone : s.queue.entries.find?
      (fun e => decide (e.client = c) && decide (e.kind = .confirm) && s.eligible e) = none :=
    List.find?_eq_none.2 fun x hx => by simpa [and_assoc] using hconfirm x hx
  have hkind : (decide (e.kind = .routine) || e.kind.isBaseline) = true := by
    cases hek : e.kind with
    | routine | baseline => rfl
    | urgent => exact absurd hek hu
    | confirm => exact absurd hek hk
  simp only [State.turnEntry, hnone]
  refine find?_oldest _ hq (by simp [hc, hkind, he]) fun x hx => ?_
  by_cases hxc : x.client = c
  · simp [by simpa [hxc] using h x hx]
  · simp [hxc]

end

/-- The clients before the `k`-th in turn (R32). -/
theorem turnOrder_split (pointer : Client) (k : Fin 4) :
    turnOrder pointer = (turnOrder pointer).take k ++ (pointer + k) :: (turnOrder pointer).drop (k + 1) ∧
      ∀ d ∈ (turnOrder pointer).take k, ∃ j, j < k ∧ d = pointer + j := by
  revert pointer k
  decide

/-- The `k`-th client in turn gives the choice when no client before it has an entry (R32). -/
theorem State.choose_of_turn {s : State} {k : Fin 4} {e : Entry} (hu : s.eligibleUrgent = none)
    (hbefore : ∀ j, j < k → s.turnEntry (s.queue.pointer + j) = none)
    (he : s.turnEntry (s.queue.pointer + k) = some e) : s.choose = some (e, s.queue.pointer + k + 1) := by
  obtain ⟨hsplit, hbefore'⟩ := turnOrder_split s.queue.pointer k
  simp only [State.choose, hu]
  refine List.findSome?_eq_some_iff.2 ⟨_, _, _, hsplit, by rw [he]; rfl, fun d hd => ?_⟩
  obtain ⟨j, hj, rfl⟩ := hbefore' d hd
  rw [hbefore j hj]
  rfl

/-! ### The position request (R59) -/

/-- Away from the port, and not in FAULT, a request has nothing to report yet (R59). -/
theorem Selector.request_quiet {x : Selector} {p : PortNo} (hf : x.state ≠ .fault)
    (h : ¬ (x.state = .settled ∧ x.target = some p ∧ x.offTarget = false)) : (x.request p).2 = .quiet := by
  unfold Selector.request
  split
  · rename_i hs
    rw [if_neg fun ⟨ht, ho⟩ => h ⟨hs, ht, ho⟩]
  · split <;> rfl
  · split <;> rfl
  · rfl
  · rfl
  · exact absurd ‹_› hf

/-- The move in progress to the port is joined, another move is begun in its place (R59, R60). -/
theorem Selector.request_of_underWay {x : Selector} (h : x.state = .moving ∨ x.state = .settling) (p : PortNo) :
    x.request p = if x.target = some p then (x, .quiet) else (x.beginMove p, .quiet) := by
  rcases h with h | h <;> simp only [Selector.request, h]

theorem Selector.request_of_settled_there {x : Selector} {p : PortNo}
    (h : x.state = .settled ∧ x.target = some p ∧ x.offTarget = false) : x.request p = (x, .arrival) := by
  obtain ⟨hs, ht⟩ := h
  simp only [Selector.request, hs, if_pos ht]

theorem Selector.offTarget_iff (x : Selector) :
    x.offTarget = true ↔ ∃ q : PortNo, x.target = some q ∧
      1 < min ((x.count.val + 2048 - 64 * q.val) % 2048) ((64 * q.val + 2048 - x.count.val) % 2048) := by
  unfold Selector.offTarget
  cases x.target with
  | none => simp
  | some q => simp [countDistance_target]

/-- A move begins (R60), with the target position in numbers. -/
theorem Selector.beginMove_eq (x : Selector) (p : PortNo) :
    x.beginMove p = { x with
      target := some p, changes := 0, moveTimer := some 2000000000, fresh := true
      settleTimer := if x.count.val = 64 * p.val then some 20000000 else none
      state := if x.count.val = 64 * p.val then .settling else .moving } := by
  have hcount : x.count = targetCount p ↔ x.count.val = 64 * p.val := Fin.ext_iff
  simp only [Selector.beginMove, hcount, Config.moveTime, Config.settleTime]

/-! ### Reserving a buffer (R145) -/

theorem Store.reserve_of_free {st : Store} (h : ∃ i, st.buffers.at i = .free) :
    ∃ i, st.buffers.at i = .free ∧ st.reserve = { st with buffers := st.buffers.put i .reserved } := by
  obtain ⟨i, hi⟩ := Option.isSome_iff_exists.1 (st.freeBuffer_isSome.2 h)
  refine ⟨i, ?_, by rw [Store.reserve, hi]⟩
  simpa using List.find?_some (p := fun i => decide (st.buffers.at i = .free)) hi

theorem Store.reserve_of_none {st : Store} (h : ∀ i, st.buffers.at i ≠ .free) : st.reserve = st := by
  have hnone : st.freeBuffer = none := by
    rw [← Option.not_isSome_iff_eq_none, Store.freeBuffer_isSome]
    exact fun ⟨i, hi⟩ => h i hi
  rw [Store.reserve, hnone]

/-! ### The start of the chosen test (R33, R78) -/

/-- The fields of a test that has just been started (R33). -/
def RunInfo.started (plan : BandSet) : RunInfo where
  plan := plan
  done := ⟨false, false⟩
  suspended := false
  cancelPending := false

/-- At arrival a test with no cancel pending goes on, unless a client holds (R78). -/
theorem State.arrive_goesOn {s : State} {e : Entry} {ri : RunInfo} (h : s.queue.running = some e) (hr : e.run = some ri)
    (hp : ri.cancelPending = false) (hh : s.hold.isEmpty = true) : s.arrive = s.goOn ri := by
  obtain ⟨_, _, _, _, _, _⟩ := e
  dsimp only at hr
  subst hr
  simp only [State.arrive, h, hp, hh, if_true, Bool.false_eq_true, if_false]

/-- A test with no resume point goes on with its first planned band (R78). -/
theorem State.goOn_of_noResume {s : State} (h : s.eng.resume = none) (ri : RunInfo) :
    s.goOn ri = (((s.setQueue (s.queue.setRun (fun x => { x with suspended := false }))).setEng
      { s.eng with resume := none }).clearMark).beginBand ri.plan.first := by
  simp only [State.goOn, h]

/-- A started test that waits for the selector (R33). -/
theorem State.startTest_of_quiet {s : State} {e : Entry} (pointer : Client) (h : (s.sel.request e.port).2 = .quiet) :
    s.startTest e pointer = (s.prepared e pointer).setSel (s.sel.request e.port).1 := by
  have h : ((s.prepared e pointer).sel.request e.port).2 = .quiet := h
  rw [State.startTest_eq, State.requestPosition, State.selEvent, h]
  rfl

/-- A started test whose port the selector is settled at begins its first planned band (R33, R78). -/
theorem State.startTest_of_settled {s : State} (hs : QueueInv s) (hm : s.mayChoose = true) {e : Entry}
    (he : e ∈ s.queue.entries) (pointer : Client)
    (h : s.sel.state = .settled ∧ s.sel.target = some e.port ∧ s.sel.offTarget = false) :
    s.startTest e pointer = (s.prepared e pointer).goOn (.started (s.resolve e.port e.kind)) := by
  obtain ⟨hidle, hempty, -⟩ := (s.mayChoose_iff).1 hm
  obtain ⟨x, hx, hrun⟩ := TestQueue.start_running (((queueInv_iff s).1 hs).2 hidle) he (s.resolve e.port e.kind)
  have hrequest : (s.prepared e pointer).sel.request e.port = (s.sel, .arrival) := Selector.request_of_settled_there h
  rw [State.startTest_eq, State.requestPosition, State.selEvent, hrequest]
  change (s.prepared e pointer).arrive = _
  exact State.arrive_goesOn hx hrun rfl hempty

/-- A QUEUED entry after a start is as it was and the started one is not suspended, so that going on changes neither
(R33, R161). -/
theorem TestQueue.setRun_start {q : TestQueue} (h : q.running = none) (n : Nat) (plan : BandSet) :
    ((q.start n plan).setRun (fun x => { x with suspended := false })).entries = (q.start n plan).entries := by
  simp only [TestQueue.setRun, TestQueue.start_entries, List.map_map]
  refine List.map_congr_left fun e he => ?_
  have hrun := (q.running_eq_none).1 h e he
  simp only [Function.comp_apply, Entry.started]
  split
  · rfl
  · rw [hrun, Option.map_none]
    exact congrArg (fun r => { e with run := r }) hrun.symm

end Sys2Proof.Machine

open Sys2Proof
open Sys2Proof.Machine

/-- Settles O31: the oldest eligible URGENT is the choice, with the pointer as it is. -/
theorem arbiterTakesTheOldestUrgent : Obligations.ArbiterTakesTheOldestUrgent := by
  intro s older newer e hm hq hk he holder
  have hurgent : s.eligibleUrgent = some e :=
    find?_oldest _ hq (by simp [hk, he]) fun x hx => by simpa using holder x hx
  have harb := State.arbitrate_of_choose hm (State.choose_of_urgent hurgent)
  exact ⟨harb, harb ▸ s.startTest_pointer e _⟩

/-- Settles O32: the `k`-th client from the pointer is the first with an entry in its turn. -/
theorem arbiterTakesTheClientsInTurn : Obligations.ArbiterTakesTheClientsInTurn := by
  have hmay : ∀ s : State, s.mayChoose = true ↔
      s.eng.state = .idle ∧ (∀ c, s.hold.members.at c = false) ∧ s.sel.state ≠ .fault := fun s => by
    rw [State.mayChoose_iff, HoldUnit.isEmpty_iff]
  refine ⟨fun s e => ?_, hmay, fun s h => ?_, fun s hm hurgent => ⟨fun hnone => ?_, ?_⟩⟩
  · rw [State.eligible_iff, BandSet.nonempty_iff, Kind.isBaseline_iff, Store.freeBuffer_isSome, Store.isFull_eq_false,
      forall_exists_index]
  · refine State.arbitrate_of_not_mayChoose ?_
    rw [← Bool.not_eq_true, hmay]
    rintro ⟨hidle, hempty, hsel⟩
    rcases h with h | ⟨c, hc⟩ | h
    · exact h hidle
    · exact Bool.false_ne_true ((hempty c).symm.trans hc)
    · exact hsel h
  · exact State.arbitrate_of_choiceInv fun _ => hnone
  · rintro k c older newer e rfl hbefore hq hc he hfirst
    have hturn : s.turnEntry (s.queue.pointer + k) = some e := by
      rcases hfirst with ⟨hk, holder⟩ | ⟨hk, hconfirm, holder⟩
      · exact State.turnEntry_confirm hq hc he hk holder
      · have hmem : e ∈ s.queue.entries := by simp [hq]
        exact State.turnEntry_other hq hc he (fun hu => hurgent e hmem ⟨hu, he⟩) hk hconfirm holder
    have harb := State.arbitrate_of_choose hm (State.choose_of_turn (State.eligibleUrgent_eq_none hurgent)
      (fun j hj => State.turnEntry_eq_none (hbefore j hj)) hturn)
    exact ⟨harb, harb ▸ s.startTest_pointer e _⟩

/-- Settles O33: the started test waits in POSITION, or its first band begins where the selector is settled at the port;
the request by the selector's state. -/
theorem testStartTakesPlanAndSnapshot : Obligations.TestStartTakesPlanAndSnapshot := by
  refine ⟨fun s e next hs hm hchoose => ?_, fun _ => rfl, fun st => ⟨Store.reserve_of_free, Store.reserve_of_none⟩, ?_⟩
  · rw [State.arbitrate_of_choose hm hchoose]
    obtain ⟨hidle, -, hfault⟩ := (s.mayChoose_iff).1 hm
    by_cases hthere : s.sel.state = .settled ∧ s.sel.target = some e.port ∧ s.sel.offTarget = false
    · have hdarks : ∀ b, PerBand.put (⟨none, none⟩ : PerBand (Option Nat)) b none = ⟨none, none⟩ := by
        rintro (_ | _) <;> rfl
      rw [State.startTest_of_settled hs hm (State.choose_mem hchoose) next hthere, State.goOn_of_noResume rfl]
      exact ⟨TestQueue.setRun_start (((queueInv_iff s).1 hs).2 hidle) e.ticket _, rfl, rfl, rfl, rfl, rfl, rfl, rfl,
        fun _ _ _ => ⟨rfl, rfl, rfl, rfl⟩, fun h => absurd hthere h, hdarks _, rfl, rfl, rfl, rfl, rfl, rfl, rfl, nofun⟩
    · have hquiet : (s.sel.request e.port).2 = .quiet := Selector.request_quiet hfault hthere
      rw [State.startTest_of_quiet next hquiet]
      exact ⟨rfl, rfl, rfl, rfl, rfl, rfl, rfl, rfl, fun h1 h2 h3 => absurd ⟨h1, h2, h3⟩ hthere, fun _ => ⟨rfl, rfl⟩,
        rfl, rfl, rfl, rfl, rfl, rfl, rfl, rfl, fun _ => rfl⟩
  · rintro x begun p rfl
    rw [← Selector.beginMove_eq]
    refine ⟨x.offTarget_iff, fun h1 h2 h3 => Selector.request_of_settled_there ⟨h1, h2, h3⟩, fun hstate h => ?_,
      fun hstate => ?_, fun hstate => ?_, fun hstate => ?_, fun hstate => ?_⟩
    · have hnot : ¬ (x.target = some p ∧ x.offTarget = false) := fun ⟨ht, ho⟩ => by simp [ht, ho] at h
      simp only [Selector.request, hstate, if_neg hnot]
    · rw [Selector.request_of_underWay hstate]
      exact ⟨fun h => if_pos h, fun h => if_neg h⟩
    · simp only [Selector.request, hstate]
    · simp only [Selector.request, hstate]
      rfl
    · simp only [Selector.request, hstate]
end

section
/-! SUPPORT. The words of LIST QUEUE (R28, R175): the latch words bit by bit, the words on the RUNNING entry, and the
entry words field by field. -/

namespace Sys2Proof.Machine

/-! ### The latch words -/

/-- A sum of distinct powers of two has exactly the bits of its exponents. -/
theorem testBit_sum_two_pow {l : List Nat} (h : l.Pairwise (· < ·)) (i : Nat) :
    ((l.map (fun j => 2 ^ j)).sum.testBit i = true) ↔ i ∈ l := by
  rw [← Nat.mem_bitIndices, Nat.bitIndices_sum_map_two_pow h.sortedLT]

/-- The ports of a client in the range from `base` on whose latches are set, counted from `base`. -/
def State.latchPlaces (s : State) (c : Client) (base : Nat) : List Nat :=
  (portList.filter (fun p => decide (base ≤ p.val ∧ p.val < base + 16)
    && decide ((s.port p).claimant = some c) && s.queue.latches.at p)).map (fun p => p.val - base)

theorem State.latchWord_eq (s : State) (c : Client) (base : Nat) :
    s.latchWord c base = num ((s.latchPlaces c base).map (fun j => 2 ^ j)).sum := by
  rw [State.latchWord, State.latchPlaces, List.map_map]
  rfl

theorem State.latchPlaces_increasing (s : State) (c : Client) (base : Nat) :
    (s.latchPlaces c base).Pairwise (· < ·) := by
  have hports : portList.Pairwise (· < ·) := List.pairwise_lt_finRange 32
  refine List.pairwise_map.2 ((hports.filter _).imp_of_mem fun {p q} hp _ hpq => ?_)
  have hbase : base ≤ p.val := by
    simp only [List.mem_filter, Bool.and_eq_true, decide_eq_true_eq] at hp
    exact hp.2.1.1.1
  have hlt : p.val < q.val := hpq
  omega

theorem State.mem_latchPlaces (s : State) (c : Client) {base : Nat} {p : PortNo} (hlow : base ≤ p.val)
    (hhigh : p.val < base + 16) :
    p.val - base ∈ s.latchPlaces c base ↔ (s.port p).claimant = some c ∧ s.queue.latches.at p = true := by
  simp only [State.latchPlaces, List.mem_map, List.mem_filter, Bool.and_eq_true, decide_eq_true_eq]
  constructor
  · rintro ⟨q, ⟨-, ⟨⟨hq, -⟩, hclaim⟩, hlatch⟩, hpq⟩
    obtain rfl : q = p := Fin.ext (by omega)
    exact ⟨hclaim, hlatch⟩
  · exact fun ⟨hclaim, hlatch⟩ => ⟨p, ⟨List.mem_finRange p, ⟨⟨hlow, hhigh⟩, hclaim⟩, hlatch⟩, rfl⟩

/-- Bit i of a latch word stands for the i-th port of its range (R175). -/
theorem State.latchWord_bit (s : State) (c : Client) {base : Nat} {p : PortNo} (hlow : base ≤ p.val)
    (hhigh : p.val < base + 16) :
    (s.latchWord c base).getLsbD (p.val - base) =
      (decide ((s.port p).claimant = some c) && s.queue.latches.at p) := by
  rw [s.latchWord_eq, num, BitVec.getLsbD_ofNat, decide_eq_true (show p.val - base < 30 by omega), Bool.true_and,
    Bool.eq_iff_iff, testBit_sum_two_pow (s.latchPlaces_increasing c base), s.mem_latchPlaces c hlow hhigh,
    Bool.and_eq_true, decide_eq_true_eq]

/-! ### The words on the RUNNING entry -/

theorem runningWords_other {q : TestQueue} {c : Client} (h : ∀ e, q.running = some e → e.client ≠ c) :
    runningWords c q = List.replicate 4 (BitVec.allOnes 30) := by
  unfold runningWords
  split
  · rename_i d ri hr
    rw [if_neg (h _ hr)]
    rfl
  · rfl

theorem runningWords_own {q : TestQueue} {c : Client} {e : Entry} {ri : RunInfo} (h : q.running = some e)
    (hr : e.run = some ri) (hc : e.client = c) :
    runningWords c q = [num (ri.plan.a.toNat + 2 * ri.plan.b.toNat), num (ri.done.a.toNat + 2 * ri.done.b.toNat),
      flag ri.suspended, flag ri.cancelPending] := by
  obtain ⟨_, _, _, _, _, _⟩ := e
  dsimp only at hr hc
  subst hr hc
  simp only [runningWords, h, if_true, BandSet.code]

/-! ### The entry words -/

/-- The client's entries keep their positions over the whole queue (R28). -/
theorem queueWords_eq (c : Client) (es : List Entry) (i : Nat) :
    queueWords c es i =
      ((es.zipIdx i).filter (fun x => decide (x.1.client = c))).map (fun x => queueWord x.1 x.2) := by
  induction es generalizing i with
  | nil => rfl
  | cons e es ih =>
    rw [queueWords, List.zipIdx_cons, List.filter_cons, ih]
    by_cases hc : e.client = c <;> simp [hc]

theorem queueKindCode_lt (k : Kind) (o : Origin) : queueKindCode k o < 2 ^ 3 := by
  unfold queueKindCode
  split <;> decide

section
variable (e : Entry) (i : Nat)

theorem queueWord_state : (queueWord e i).getLsbD 29 = e.run.isSome := by
  simp only [queueWord, BitVec.getLsbD_append]
  simp

theorem queueWord_position : (queueWord e i).extractLsb' 24 5 = BitVec.ofNat 5 i := by
  rw [queueWord]
  iterate 3 rw [BitVec.extractLsb'_append_eq_of_le (by decide)]
  exact BitVec.extractLsb'_append_eq_right

theorem queueWord_ticket : (queueWord e i).extractLsb' 8 16 = BitVec.ofNat 16 e.ticket := by
  rw [queueWord]
  iterate 2 rw [BitVec.extractLsb'_append_eq_of_le (by decide)]
  exact BitVec.extractLsb'_append_eq_right

theorem queueWord_port : (queueWord e i).extractLsb' 3 5 = BitVec.ofNat 5 e.port.val := by
  rw [queueWord, BitVec.extractLsb'_append_eq_of_le (by decide)]
  exact BitVec.extractLsb'_append_eq_right

theorem queueWord_kind : (queueWord e i).extractLsb' 0 3 = BitVec.ofNat 3 (queueKindCode e.kind e.origin) :=
  BitVec.extractLsb'_append_eq_right

end

end Sys2Proof.Machine

open Sys2Proof
open Sys2Proof.Machine

/-- Settles O27: the request answers with the state as it stands; the words by their definitions, part by part. -/
theorem listQueueIsOnePicture : Obligations.ListQueueIsOnePicture := by
  refine ⟨fun s c tag h => ⟨?_, fun p => ?_⟩, fun q c => ⟨runningWords_other, fun e ri => runningWords_own,
    queueWords_eq c q.entries 0⟩, fun e i code hticket hi hcode => ?_⟩
  · obtain ⟨ha, ht⟩ := State.takeRequest_of_handle (r := .listQueue) tag h nofun nofun rfl rfl
    exact ⟨_, rfl, ht, ha⟩
  · split
    · rename_i hp
      rw [Nat.mod_eq_of_lt hp]
      exact s.latchWord_bit c (Nat.zero_le _) (by omega)
    · have hmod : p.val % 16 = p.val - 16 := by omega
      rw [hmod]
      exact s.latchWord_bit c (by omega) (by omega)
  · have hkind : code = queueKindCode e.kind e.origin := by
      rw [hcode]
      cases e.kind with
      | routine | confirm => rfl
      | urgent => cases e.origin <;> rfl
      | baseline b => cases b <;> rfl
    exact ⟨queueWord_state e i, toNat_of_field (queueWord_position e i) hi,
      toNat_of_field (queueWord_ticket e i) (Nat.lt_succ_of_le hticket),
      toNat_of_field (queueWord_port e i) e.port.isLt,
      hkind ▸ toNat_of_field (queueWord_kind e i) (queueKindCode_lt ..)⟩
end

section
/-! SUPPORT. LINK RESET (11.7): the results it writes, the end of a hold it may bring, and what it makes of the state
beside the highway (R42, R164, R177). -/

namespace Sys2Proof.Machine

/-! ### The latch drain and the claimants -/

theorem State.drainPort_queue_of_claimants {s t : State} (hq : t.queue = s.queue)
    (hc : ∀ p, (t.port p).claimant = (s.port p).claimant) (p : PortNo) :
    (t.drainPort p).queue = (s.drainPort p).queue := by
  unfold State.drainPort
  rw [hq, hc p]
  (repeat' split) <;> simp [hq]

/-- Of the ports the drain reads the claimants alone (R40). -/
theorem State.drain_queue_of_claimants {s t : State} (hq : t.queue = s.queue)
    (hc : ∀ p, (t.port p).claimant = (s.port p).claimant) : t.drain.queue = s.drain.queue := by
  have h : ∀ (l : List PortNo) (s t : State), t.queue = s.queue → (∀ p, (t.port p).claimant = (s.port p).claimant) →
      (l.foldl State.drainPort t).queue = (l.foldl State.drainPort s).queue := by
    intro l
    induction l with
    | nil => exact fun _ _ hq _ => hq
    | cons r l ih =>
      refine fun s t hq hc => ih _ _ (State.drainPort_queue_of_claimants hq hc r) fun p => ?_
      rw [t.drainPort_port r p, s.drainPort_port r p, hc p]
  exact h portList s t hq hc

/-! ### The hold set (R156) -/

@[simp] theorem State.leaveTest_members (s : State) : s.leaveTest.hold.members = s.hold.members := by
  unfold State.leaveTest State.enterHeld
  (repeat' split) <;> rfl

@[simp] theorem State.testGone_hold (s : State) (e : Entry) (x : ResultRecord) (asks : Prop) [Decidable asks] :
    (s.testGone e x asks).hold = s.hold := by
  unfold State.testGone State.admitConfirm
  dsimp only
  (repeat' split) <;> rfl

@[simp] theorem State.endTest_members (s : State) (status : Status) (cause : Option Cause) (r : Report) (full : Bool) :
    (s.endTest status cause r full).hold.members = s.hold.members := by
  cases h : s.queue.running with
  | none => simp [s.endTest_of_none h]
  | some e =>
    obtain ⟨ri, hri⟩ := Option.isSome_iff_exists.1 (TestQueue.running_eq_some h).2
    simp [s.endTest_of_running h hri]

@[simp] theorem State.cancelTest_members (s : State) : s.cancelTest.hold.members = s.hold.members :=
  State.endTest_members ..

@[simp] theorem State.abort_members (s : State) (c : Cause) : (s.abort c).hold.members = s.hold.members := by
  unfold State.abort
  (repeat' split) <;> simp

@[simp] theorem State.clearMark_members (s : State) : s.clearMark.hold.members = s.hold.members := rfl

@[simp] theorem State.markRestart_members (s : State) : s.markRestart.hold.members = s.hold.members := by
  unfold State.markRestart
  split <;> rfl

@[simp] theorem State.goOn_members (s : State) (ri : RunInfo) : (s.goOn ri).hold.members = s.hold.members := by
  obtain ⟨eng, hgo, -⟩ := s.goOn_eq ri
  rw [hgo]
  rfl

@[simp] theorem State.arrive_members (s : State) : s.arrive.hold.members = s.hold.members := by
  have hpark : ∀ x, (s.park x).hold.members = s.hold.members := fun _ => rfl
  unfold State.arrive
  (repeat' split) <;> simp [hpark]

@[simp] theorem State.positionFailed_members (s : State) : s.positionFailed.hold.members = s.hold.members :=
  State.abort_members ..

@[simp] theorem State.heed_members (s : State) (x : SelReport) : (s.heed x).hold.members = s.hold.members := by
  cases x <;> simp [State.heed] <;> split <;> simp

@[simp] theorem State.requestPosition_members (s : State) (p : PortNo) :
    (s.requestPosition p).hold.members = s.hold.members :=
  State.heed_members ..

@[simp] theorem State.arbitrate_members (s : State) : s.arbitrate.hold.members = s.hold.members := by
  unfold State.arbitrate
  split
  · split
    · exact State.requestPosition_members ..
    · rfl
  · rfl

@[simp] theorem State.releaseHold_members (s : State) : s.releaseHold.hold.members = s.hold.members := by
  unfold State.releaseHold
  dsimp only
  (repeat' split) <;> simp

/-! ### A client leaves the hold set (R160, R164) -/

/-- The client is the last in the hold set. -/
def HoldUnit.lastIs (h : HoldUnit) (c : Client) : Prop :=
  h.members.at c = true ∧ ∀ d, d ≠ c → h.members.at d = false

/-- The state with a client out of the hold set, and nothing made of it yet. -/
def State.without (s : State) (c : Client) : State :=
  s.setHold { s.hold with members := s.hold.members.put c false }

theorem State.without_isEmpty (s : State) (c : Client) :
    (s.without c).hold.isEmpty = true ↔ ∀ d, d ≠ c → s.hold.members.at d = false := by
  rw [HoldUnit.isEmpty_iff]
  refine forall_congr' fun d => ?_
  change (s.hold.members.put c false).at d = false ↔ _
  by_cases hd : c = d
  · simp [hd]
  · simp [Tab.at_put_ne _ _ hd, Ne.symm hd]

theorem State.without_of_not_member {s : State} {c : Client} (h : s.hold.members.at c = false) : s.without c = s := by
  rw [State.without, ← h, Tab.put_at_self]
  rfl

/-- The last client that leaves ends the hold (R160). -/
theorem State.leaveHold_of_last {s : State} {c : Client} (h : s.hold.lastIs c) :
    s.leaveHold c = (s.without c).releaseHold := by
  obtain ⟨hc, hd⟩ := h
  rw [State.leaveHold, if_pos hc]
  exact if_pos ((s.without_isEmpty c).2 hd)

/-- With another client in the hold set, or none of it, the hold goes on as it was (R160). -/
theorem State.leaveHold_of_not_last {s : State} {c : Client} (h : ¬ s.hold.lastIs c) : s.leaveHold c = s.without c := by
  by_cases hc : s.hold.members.at c = true
  · rw [State.leaveHold, if_pos hc]
    exact if_neg fun hempty => h ⟨hc, (s.without_isEmpty c).1 hempty⟩
  · rw [State.without_of_not_member (by simpa using hc), State.leaveHold, if_neg hc]

theorem State.leaveHold_members (s : State) (c : Client) :
    (s.leaveHold c).hold.members = s.hold.members.put c false := by
  by_cases h : s.hold.lastIs c
  · rw [State.leaveHold_of_last h, State.releaseHold_members]
    rfl
  · rw [State.leaveHold_of_not_last h]
    rfl

/-! ### The end of a hold (R160, R161) -/

/-- The parked test on its way back to its port, its position not requested yet (R71, R161). -/
def State.reDriven (s : State) : State :=
  ((s.setHold { s.hold with timer := none }).setEng { s.eng with state := .position }).redrive

theorem State.releaseHold_of_held {s : State} {e : Entry} (hs : s.eng.state = .held) (hr : s.queue.running = some e) :
    s.releaseHold = s.reDriven.requestPosition e.port := by
  simp only [State.releaseHold, hs, hr]
  rfl

theorem State.releaseHold_queue_of_not_held {s : State} (hs : s.eng.state ≠ .held) : s.releaseHold.queue = s.queue := by
  unfold State.releaseHold
  split
  · split <;> rfl
  · exact absurd ‹_› hs
  · rfl

theorem Selector.deferredMove_of_fault {x : Selector} (h : x.state = .fault) : x.deferredMove = x := by
  unfold Selector.deferredMove
  split
  · exact if_neg fun ⟨hs, _⟩ => by simp [h] at hs
  · rfl

theorem Selector.deferredMove_ne_fault {x : Selector} (h : x.state ≠ .fault) : x.deferredMove.state ≠ .fault := by
  unfold Selector.deferredMove
  (repeat' split)
  · rcases x.beginMove_state ‹_› with hb | hb <;> simp [hb]
  · exact h
  · exact h

/-- A position request of a test with no cancel pending ends no test, but for a selector in FAULT (R59, R78). -/
theorem State.requestPosition_running {s : State} {e : Entry} {ri : RunInfo} (hr : s.queue.running = some e)
    (hri : e.run = some ri) (hp : ri.cancelPending = false) (hh : s.hold.isEmpty = true) (hsel : s.sel.state ≠ .fault)
    (p : PortNo) : (s.requestPosition p).queue.running ≠ none := by
  rw [State.requestPosition, State.selEvent]
  have hrun : (s.setSel (s.sel.request p).1).queue.running = some e := hr
  rcases Selector.request_report s.sel p hsel with h | h
  · rw [h]
    exact hrun ▸ nofun
  · rw [h, State.heed]
    split
    · obtain ⟨eng, hgo, -⟩ := State.goOn_eq (s.setSel (s.sel.request p).1) ri
      rw [State.arrive_goesOn hrun hri hp hh, hgo]
      change (s.queue.setRun _).running ≠ none
      rw [TestQueue.setRun_running, hr]
      exact nofun
    · exact hrun ▸ nofun

/-- In FAULT the request fails (R59, R65). -/
theorem State.requestPosition_of_fault {s : State} (hsel : s.sel.state = .fault) (hs : s.eng.state = .position)
    (p : PortNo) : s.requestPosition p = s.positionFailed := by
  have hrequest : s.sel.request p = (s.sel, .failure) := by simp only [Selector.request, hsel]
  rw [State.requestPosition, State.selEvent, hrequest]
  exact if_pos hs

/-- A test that ends other than DONE leaves the queue without its entry, drained (R35). -/
theorem State.endTest_queue_of_not_done {s : State} {e : Entry} (hr : s.queue.running = some e) {status : Status}
    (hd : status ≠ .done) (cause : Option Cause) (r : Report) (full : Bool) :
    (s.endTest status cause r full).queue = (s.setQueue (s.queue.drop (fun x => x.run.isSome))).drain.queue := by
  obtain ⟨ri, hri⟩ := Option.isSome_iff_exists.1 (TestQueue.running_eq_some hr).2
  rw [s.endTest_of_running hr hri, State.leaveTest_queue, State.discardWork_queue, State.testGone,
    if_neg fun h => hd h.1]
  refine State.drain_queue_of_claimants rfl fun p => ?_
  rw [State.setQueue_port, State.setQueue_port, State.writeResult, State.setPort_port]
  split
  · subst_vars
    rfl
  · rfl

theorem State.abort_queue {s : State} {e : Entry} (hr : s.queue.running = some e) (cause : Cause) :
    (s.abort cause).queue = (s.setQueue (s.queue.drop (fun x => x.run.isSome))).drain.queue := by
  unfold State.abort
  (repeat' split) <;> exact State.endTest_queue_of_not_done hr (by decide) ..

/-- A hold that ends with the selector in FAULT ends the parked test (R65, R161). -/
theorem State.releaseHold_of_fault {s : State} {e : Entry} (hs : s.eng.state = .held) (hr : s.queue.running = some e)
    (hsel : s.sel.state = .fault) :
    s.releaseHold.queue = (s.setQueue (s.queue.drop (fun x => x.run.isSome))).drain.queue ∧
      s.releaseHold.sel.state = .fault := by
  have hdriven : s.reDriven.sel.state = .fault := by
    change s.sel.deferredMove.state = .fault
    rwa [Selector.deferredMove_of_fault hsel]
  rw [State.releaseHold_of_held hs hr, State.requestPosition_of_fault hdriven rfl]
  refine ⟨?_, by rwa [State.positionFailed_sel]⟩
  exact (State.abort_queue (s := s.reDriven.clearMark) hr .selector).trans
    (State.drain_queue_of_claimants rfl fun _ => rfl)

/-- A hold that ends elsewhere than with a test parked and the selector in FAULT ends no test without cancel pending
(R160, R161). -/
theorem State.releaseHold_running {s : State} {e : Entry} {ri : RunInfo} (hr : s.queue.running = some e)
    (hri : e.run = some ri) (hp : ri.cancelPending = false) (hh : s.hold.isEmpty = true)
    (h : ¬ (s.eng.state = .held ∧ s.sel.state = .fault)) : s.releaseHold.queue.running ≠ none := by
  by_cases hs : s.eng.state = .held
  · rw [State.releaseHold_of_held hs hr]
    exact State.requestPosition_running (s := s.reDriven) hr hri hp hh
      (Selector.deferredMove_ne_fault fun hf => h ⟨hs, hf⟩) _
  · rw [State.releaseHold_queue_of_not_held hs, hr]
    exact nofun

/-- A client that leaves the hold set ends no test without cancel pending, but for a parked one with the selector in
FAULT (R160, R161). -/
theorem State.leaveHold_running {s : State} {c : Client} {e : Entry} {ri : RunInfo} (hr : s.queue.running = some e)
    (hri : e.run = some ri) (hp : ri.cancelPending = false)
    (h : ¬ (s.hold.lastIs c ∧ s.eng.state = .held ∧ s.sel.state = .fault)) : (s.leaveHold c).queue.running ≠ none := by
  by_cases hl : s.hold.lastIs c
  · rw [State.leaveHold_of_last hl]
    exact State.releaseHold_running (s := s.without c) hr hri hp ((s.without_isEmpty c).2 hl.2) fun hf => h ⟨hl, hf⟩
  · rw [State.leaveHold_of_not_last hl]
    change s.queue.running ≠ none
    rw [hr]
    exact nofun

/-! ### The CANCELLED results (R42, R177) -/

theorem Entry.waitsFor_iff (e : Entry) (c : Client) : e.waitsFor c = true ↔ e.run = none ∧ e.client = c := by
  simp [Entry.waitsFor]

/-- Results written one after the other leave a port as it was, or with the result of one of its entries (R15). -/
theorem foldl_writeResult_port (x : Entry → ResultRecord) (l : List Entry) (s : State) (p : PortNo) :
    ((∀ e ∈ l, e.port ≠ p) ∧ (l.foldl (fun t e => t.writeResult e.port (x e)) s).port p = s.port p) ∨
      ∃ f ∈ l, f.port = p ∧ (l.foldl (fun t e => t.writeResult e.port (x e)) s).port p =
        { s.port p with result := some (x f), unread := true } := by
  induction l using List.reverseRecOn with
  | nil => exact .inl ⟨List.forall_mem_nil _, rfl⟩
  | append_singleton l e ih =>
    rw [List.foldl_append, List.foldl_cons, List.foldl_nil, State.writeResult, State.setPort_port]
    by_cases hp : e.port = p
    · subst hp
      refine .inr ⟨e, List.mem_append_right _ (List.mem_singleton_self e), rfl, ?_⟩
      rw [if_pos rfl]
      rcases ih with ⟨-, h⟩ | ⟨f, -, -, h⟩ <;> rw [h]
    · rw [if_neg hp]
      rcases ih with ⟨hl, h⟩ | ⟨f, hf, hfp, h⟩
      · refine .inl ⟨fun y hy => ?_, h⟩
        rcases List.mem_append.1 hy with hy | hy
        · exact hl y hy
        · exact List.mem_singleton.1 hy ▸ hp
      · exact .inr ⟨f, List.mem_append_left _ hf, hfp, h⟩

/-- A port after the QUEUED entries of a client are cancelled: as it was when none was its own, otherwise with the
CANCELLED result of one of them (R42, R177). -/
theorem State.cancelAll_port (s : State) (c : Client) (p : PortNo) :
    ((∀ e ∈ s.queue.entries, e.run = none → e.client = c → e.port ≠ p) ∧ (s.cancelAll c).port p = s.port p) ∨
      ∃ f ∈ s.queue.entries, f.run = none ∧ f.client = c ∧ f.port = p ∧ (s.cancelAll c).port p =
        { s.port p with result := some (queuedResult f .cancelled s.office.clock), unread := true } := by
  have hmem : ∀ e, e ∈ s.queue.entries.filter (fun e => e.waitsFor c) ↔
      e ∈ s.queue.entries ∧ e.run = none ∧ e.client = c := fun e => by rw [List.mem_filter, Entry.waitsFor_iff]
  rcases foldl_writeResult_port (fun e => queuedResult e .cancelled s.office.clock)
    (s.queue.entries.filter (fun e => e.waitsFor c)) s p with ⟨hnone, h⟩ | ⟨f, hf, hp, h⟩
  · exact .inl ⟨fun e he hrun hc => hnone e ((hmem e).2 ⟨he, hrun, hc⟩), h⟩
  · obtain ⟨hfq, hrun, hc⟩ := (hmem f).1 hf
    exact .inr ⟨f, hfq, hrun, hc, hp, h⟩

theorem State.cancelAll_claimant (s : State) (c : Client) (p : PortNo) :
    ((s.cancelAll c).port p).claimant = (s.port p).claimant := by
  rcases s.cancelAll_port c p with ⟨-, h⟩ | ⟨f, -, -, -, -, h⟩ <;> rw [h]

/-- Nothing but the ports and the entries changes (R42). -/
theorem State.cancelAll_eq (s : State) (c : Client) :
    s.cancelAll c = (s.setPorts (s.cancelAll c).ports).setQueue { s.queue with
      entries := s.queue.entries.filter (fun e => e.run.isSome || decide (e.client ≠ c)) } := by
  have hdrop : s.queue.drop (fun e => e.waitsFor c) = { s.queue with
      entries := s.queue.entries.filter (fun e => e.run.isSome || decide (e.client ≠ c)) } := by
    unfold TestQueue.drop
    congr 2
    funext e
    cases h : e.run <;> simp [Entry.waitsFor, h]
  rw [← hdrop]
  conv_lhs => rw [State.cancelAll, State.cancelResults_eq]
  rfl

theorem State.cancelAll_running_eq (s : State) (c : Client) : (s.cancelAll c).queue.running = s.queue.running := by
  rw [State.cancelAll_eq, State.setQueue_queue, TestQueue.running, List.find?_filter, TestQueue.running]
  congr 1
  funext e
  cases e.run <;> simp

/-- Of what stays the RUNNING entry leaves too: the QUEUED entries of the other clients are left. -/
theorem State.cancelAll_drop_running (s : State) (c : Client) :
    (s.cancelAll c).queue.drop (fun x => x.run.isSome) =
      { s.queue with entries := s.queue.entries.filter (fun x => decide (x.run = none ∧ x.client ≠ c)) } := by
  rw [TestQueue.drop_run, State.cancelAll_eq, State.setQueue_queue, List.filter_filter]
  congr 2
  funext x
  cases x.run <;> simp

/-! ### The request (R177) -/

/-- The blocks after a LINK RESET. -/
def State.afterLinkReset (s : State) (c : Client) : State :=
  (s.drainAfterReset ((s.cancelAll c).leaveHold c) c).arbitrate

theorem State.cancelAll_setHw (s : State) (x : Highway) (c : Client) :
    (s.setHw x).cancelAll c = (s.cancelAll c).setHw x := by
  have h : ∀ (l : List Entry) (t : State),
      l.foldl (fun t e => t.writeResult e.port (queuedResult e .cancelled s.office.clock)) (t.setHw x) =
        (l.foldl (fun t e => t.writeResult e.port (queuedResult e .cancelled s.office.clock)) t).setHw x := by
    intro l
    induction l with
    | nil => exact fun _ => rfl
    | cons e l ih => exact fun t => ih (t.writeResult e.port _)
  exact congrArg (fun t : State => t.setQueue (s.queue.drop (fun e => e.waitsFor c))) (h _ s)

theorem State.afterLinkReset_setHw (s : State) (x : Highway) (c : Client) :
    (s.setHw x).afterLinkReset c = (s.afterLinkReset c).setHw x := by
  have hdrain : ∀ t : State, (s.setHw x).drainAfterReset (t.setHw x) c = (s.drainAfterReset t c).setHw x := fun t => by
    unfold State.drainAfterReset
    rw [State.drain_setHw]
    exact (apply_ite (fun u : State => u.setHw x) _ _ _).symm
  rw [State.afterLinkReset, State.cancelAll_setHw, State.leaveHold_setHw, hdrain, State.arbitrate_setHw]
  rfl

theorem doLinkReset_eq (c : Client) (s : State) :
    doLinkReset c s = (.plain .ok, (s.afterLinkReset c).setHw (s.setLink c (s.link c).clearFlags).hw) := by
  rw [← State.afterLinkReset_setHw]
  rfl

/-- A LINK RESET is taken whether or not a request is pending, and its link is answered (R171, R177). -/
theorem State.takeRequest_linkReset (s : State) (c : Client) (tag : Tag) (h : s.hw.frame = .aligned) :
    Answered s (s.takeRequest c tag .linkReset) c Link.reset 21 tag { code := .ok, body := [] } ∧
      s.takeRequest c tag .linkReset = (s.afterLinkReset c).setHw (s.takeRequest c tag .linkReset).hw := by
  have ht : s.takeRequest c tag .linkReset =
      ((s.afterLinkReset c).setHw ((s.messageEnd c true).setLink c ((s.messageEnd c true).link c).clearFlags).hw).respond
        c 21 tag (.plain .ok) := by
    rw [State.takeRequest, if_pos h, State.deliver, if_neg fun hp => hp.2 rfl]
    change ((doLinkReset c (s.messageEnd c true)).2).respond c 21 tag _ = _
    rw [doLinkReset_eq, s.messageEnd_eq c true, State.afterLinkReset_setHw]
    rfl
  rw [ht]
  refine ⟨⟨?_, ?_, fun d hd => ?_, ?_⟩, rfl⟩
  · exact s.slotEnd_frame
  · exact s.slotEnd_tx
  · rw [State.respond, State.setLink_link_ne _ _ (Ne.symm hd)]
    change ((s.messageEnd c true).setLink c _).link d = _
    rw [State.setLink_link_ne _ _ (Ne.symm hd), State.messageEnd, State.setLink_link_ne _ _ (Ne.symm hd)]
  · have hlink : ((s.afterLinkReset c).setHw
        ((s.messageEnd c true).setLink c ((s.messageEnd c true).link c).clearFlags).hw).link c =
          (s.linkAfter c true).clearFlags :=
      ((s.messageEnd c true).setLink_link_same c _).trans (congrArg Link.clearFlags (s.messageEnd_link c true))
    rw [State.respond, State.setLink_link_same, hlink]
    rfl

/-- The drain of the event runs when QUEUED entries have left, unless the RUNNING entry's end has run it (R40). -/
theorem State.drainAfterReset_drains {s t : State} {c : Client}
    (h : ∃ e ∈ s.queue.entries, e.run = none ∧ e.client = c)
    (hr : s.queue.running = none ∨ t.queue.running ≠ none) : s.drainAfterReset t c = t.drain :=
  if_pos ⟨by simpa only [List.any_eq_true, Entry.waitsFor_iff] using h, hr⟩

theorem State.drainAfterReset_skips {s t : State} {c : Client}
    (h : (¬ ∃ e ∈ s.queue.entries, e.run = none ∧ e.client = c) ∨ s.queue.running ≠ none ∧ t.queue.running = none) :
    s.drainAfterReset t c = t := by
  refine if_neg fun ⟨hany, hr⟩ => ?_
  rcases h with h | ⟨hs, ht⟩
  · exact h (by simpa only [List.any_eq_true, Entry.waitsFor_iff] using hany)
  · exact hr.elim hs fun hr => hr ht

theorem State.afterLinkReset_members (s : State) (c : Client) :
    (s.afterLinkReset c).hold.members = s.hold.members.put c false := by
  have hdrained : ∀ t : State, (s.drainAfterReset t c).hold.members = t.hold.members := fun t => by
    unfold State.drainAfterReset
    split <;> simp
  rw [State.afterLinkReset, State.arbitrate_members, hdrained, State.leaveHold_members, State.cancelAll_eq]
  rfl

/-- A LINK RESET that ends a hold with a test parked and the selector in FAULT ends the test as well, and drains once,
when all have left (R40, R65, R177). -/
theorem State.afterLinkReset_of_fault {s : State} {c : Client} {e : Entry} (hr : s.queue.running = some e)
    (hs : s.eng.state = .held) (hsel : s.sel.state = .fault) (hl : s.hold.lastIs c) :
    (s.afterLinkReset c).queue = (s.setQueue { s.queue with
      entries := s.queue.entries.filter (fun x => decide (x.run = none ∧ x.client ≠ c)) }).drain.queue := by
  have hleave : (s.cancelAll c).leaveHold c = ((s.cancelAll c).without c).releaseHold :=
    State.leaveHold_of_last (by rw [s.cancelAll_eq c]; exact hl)
  obtain ⟨hqueue, hfault⟩ := State.releaseHold_of_fault (s := (s.cancelAll c).without c) (e := e)
    (by rw [s.cancelAll_eq c]; exact hs) ((s.cancelAll_running_eq c).trans hr) (by rw [s.cancelAll_eq c]; exact hsel)
  rw [← hleave] at hqueue hfault
  have hnone : ((s.cancelAll c).leaveHold c).queue.running = none := by
    rw [hqueue, State.drain_running]
    exact TestQueue.drop_running_run _
  rw [State.afterLinkReset, State.drainAfterReset_skips (.inr ⟨by rw [hr]; exact nofun, hnone⟩),
    State.arbitrate_of_not_mayChoose (by simp [State.mayChoose, hfault]), hqueue]
  exact State.drain_queue_of_claimants (s.cancelAll_drop_running c) (s.cancelAll_claimant c)

end Sys2Proof.Machine

open Sys2Proof
open Sys2Proof.Machine

/-- Settles O17: `State.cancelAll` is the state with the entries gone; a hold that ends keeps the RUNNING entry, but for
a parked test with the selector in FAULT. -/
theorem linkResetDropsTheLinkAndItsQueuedTests : Obligations.LinkResetDropsTheLinkAndItsQueuedTests := by
  intro s c tag mine h hmine
  obtain ⟨hanswered, ht⟩ := s.takeRequest_linkReset c tag h
  refine ⟨s.takeRequest c tag .linkReset, s.cancelAll c, (s.cancelAll c).leaveHold c, rfl, hanswered, s.cancelAll_eq c,
    fun p => ?_, fun e he hrun hc => ?_, fun p hp => ?_, rfl, fun hm hstays => ?_, fun hskip => ?_, fun e he => ⟨?_, ?_⟩,
    ?_, ?_⟩
  · rcases s.cancelAll_port c p with ⟨-, h⟩ | ⟨f, -, -, -, -, h⟩ <;> rw [h]
  · rcases s.cancelAll_port c e.port with ⟨hnone, -⟩ | ⟨f, hf, hfr, hfc, hfp, h⟩
    · exact absurd rfl (hnone e he hrun hc)
    · rw [h]
      exact ⟨rfl, f, hf, hfr, hfc, hfp, rfl⟩
  · rcases s.cancelAll_port c p with ⟨-, h⟩ | ⟨f, hf, hfr, hfc, hfp, -⟩
    · exact h
    · exact absurd hfp (hp f hf hfr hfc)
  · have hdrained : s.afterLinkReset c = ((s.cancelAll c).leaveHold c).drain.arbitrate :=
      congrArg State.arbitrate (State.drainAfterReset_drains (hmine.1 hm) hstays)
    rw [← hdrained]
    exact ht
  · have hskipped : s.afterLinkReset c = ((s.cancelAll c).leaveHold c).arbitrate :=
      congrArg State.arbitrate (State.drainAfterReset_skips (hskip.imp_left (mt hmine.2)))
    rw [← hskipped]
    exact ht
  · intro hnot hpending
    obtain ⟨ri, hri⟩ := Option.isSome_iff_exists.1 (TestQueue.running_eq_some he).2
    exact State.leaveHold_running (s := s.cancelAll c) ((s.cancelAll_running_eq c).trans he) hri (hpending ri hri)
      (by rw [s.cancelAll_eq c]; exact fun ⟨hl, hs, hf⟩ => hnot ⟨hs, hf, hl.1, hl.2⟩)
  · intro hheld hfault hmember hlast
    rw [ht]
    exact State.afterLinkReset_of_fault he hheld hfault ⟨hmember, hlast⟩
  · rw [ht]
    change (s.afterLinkReset c).hold.members.at c = false
    rw [State.afterLinkReset_members]
    exact Tab.at_put_same ..
  · intro d hd
    rw [ht]
    change (s.afterLinkReset c).hold.members.at d = _
    rw [State.afterLinkReset_members, Tab.at_put_ne _ _ (Ne.symm hd)]
end

section
/-! SUPPORT. Office time and quiet windows (chapter 3): the clock's next value, what SET CLOCK and SET WINDOW answer, a
window by its shape, and the resolver's plans. -/

namespace Sys2Proof.Machine

/-! ### The clock and the windows set (R43, R44, R47) -/

/-- The clock wraps from its last second (R43). -/
theorem nextSecond_eq {v : Nat} (h : v < 86400) : nextSecond v = if v = 86399 then 0 else v + 1 := by
  unfold nextSecond Config.secondsPerDay
  split <;> split <;> omega

theorem exec_clockAdvance (s : State) : exec .clockAdvance s = .next s.tick := rfl

theorem State.tick_of_unset {s : State} (h : s.office.clock = none) : s.tick = s := by
  rw [State.tick, h]

theorem State.tick_of_set {s : State} {v : Nat} (h : s.office.clock = some v) :
    s.tick = if nextSecond v % 60 = 0 then (s.setOffice { s.office with clock := some (nextSecond v) }).arbitrate
      else s.setOffice { s.office with clock := some (nextSecond v) } := by
  rw [State.tick, h]

theorem doSetClock_badValue (s : State) {v : Payload} (h : 86400 ≤ v.toNat) :
    doSetClock v s = (.plain .badValue, s) := if_pos h

theorem doSetClock_sets (s : State) {v : Payload} (h : v.toNat < 86400) :
    doSetClock v s = ({ code := .ok, body := [num v.toNat] },
      (s.setOffice { s.office with clock := some v.toNat }).arbitrate) := if_neg (Nat.not_le.2 h)

theorem doSetWindow_badValue (c : Client) (s : State) {start stop : Payload}
    (h : 1439 < start.toNat ∨ 1439 < stop.toNat) : doSetWindow c start stop s = (.plain .badValue, s) := if_pos h

theorem doSetWindow_sets (c : Client) (s : State) {start stop : Payload} {w : Window} (hstart : start.toNat ≤ 1439)
    (hstop : stop.toNat ≤ 1439) (hw : w = { start := start.toNat, stop := stop.toNat }) :
    doSetWindow c start stop s =
      ({ code := .ok, body := [num w.start, num w.stop, flag (w.isOpen s.office.clock)] },
        (s.setOffice { s.office with windows := s.office.windows.put c w }).arbitrate) := by
  subst hw
  exact if_neg (not_or.2 ⟨Nat.not_lt.2 hstart, Nat.not_lt.2 hstop⟩)

/-! ### A window by its shape (R48) -/

theorem Window.isOpen_unset (w : Window) : w.isOpen none = false := rfl

/-- A window within one day (R48). -/
theorem Window.isOpen_withinDay {w : Window} (h : w.start < w.stop) (v : Nat) :
    w.isOpen (some v) = true ↔ w.start ≤ minuteOf v ∧ minuteOf v < w.stop := by
  simp only [Window.isOpen, if_pos h, decide_eq_true_iff]

/-- A window over midnight (R48). -/
theorem Window.isOpen_overMidnight {w : Window} (h : w.stop < w.start) (v : Nat) :
    w.isOpen (some v) = true ↔ w.start ≤ minuteOf v ∨ minuteOf v < w.stop := by
  simp only [Window.isOpen, if_neg (Nat.lt_asymm h), if_pos h, decide_eq_true_iff]

/-- A window of equal minutes is open all day (R48). -/
theorem Window.isOpen_allDay {w : Window} (h : w.start = w.stop) (v : Nat) : w.isOpen (some v) = true := by
  simp only [Window.isOpen, h, lt_irrefl, if_false]

/-! ### The band plan (R49, R50) -/

theorem State.resolve_overridden {s : State} {p : PortNo}
    (h : (s.port p).claimant = none ∨ s.sel.state = .fault ∨ ∃ c, s.hold.members.at c = true) (k : Kind) :
    s.resolve p k = ⟨false, false⟩ :=
  if_pos (h.imp_right (Or.imp_right (HoldUnit.isEmpty_eq_false_iff _).2))

theorem State.ownerWindowOpen_of_claimant {s : State} {p : PortNo} {c : Client} (hc : (s.port p).claimant = some c) :
    s.ownerWindowOpen p = s.office.isOpen c := by
  rw [State.ownerWindowOpen, hc]

theorem State.resolve_permitted {s : State} {p : PortNo} {c : Client} (hc : (s.port p).claimant = some c)
    (hsel : s.sel.state ≠ .fault) (hhold : ∀ d, s.hold.members.at d = false) (k : Kind) :
    s.resolve p k = planOf k (s.office.isOpen c) (s.port p).profile.bandAEnable := by
  rw [State.resolve, State.ownerWindowOpen_of_claimant hc, (HoldUnit.isEmpty_iff _).2 hhold, hc]
  exact if_neg (by simp [hsel])

end Sys2Proof.Machine

open Sys2Proof
open Sys2Proof.Machine

/-- Settles O34: the clock's advance by its value, the two requests by their range checks. -/
theorem clockAndWindowsAreSet : Obligations.ClockAndWindowsAreSet := by
  refine fun s => ⟨fun hunset => ?_, fun v w hset hv hw => ?_, fun c tag v h => ?_, fun c tag start stop h => ?_⟩
  · rw [exec_clockAdvance, State.tick_of_unset hunset]
  · rw [exec_clockAdvance, State.tick_of_set hset, nextSecond_eq hv, ← hw]
    exact ⟨fun hminute => by rw [if_pos hminute], fun hminute => by rw [if_neg hminute]⟩
  · have hanswer := fun x u =>
      State.takeRequest_of_handle (r := .setClock v) (x := x) (u := u) tag h nofun nofun rfl
    exact ⟨_, rfl, fun hbad => hanswer _ _ (doSetClock_badValue s hbad),
      fun hlegal => hanswer _ _ (doSetClock_sets s hlegal)⟩
  · have hanswer := fun x u =>
      State.takeRequest_of_handle (r := .setWindow start stop) (x := x) (u := u) tag h nofun nofun rfl
    exact ⟨_, rfl, fun hbad => hanswer _ _ (doSetWindow_badValue c s hbad),
      fun hstart hstop _ hw => hanswer _ _ (doSetWindow_sets c s hstart hstop hw)⟩

/-- Settles O35: the three shapes of a window. -/
theorem windowOpensByItsShape : Obligations.WindowOpensByItsShape := by
  rintro o c w rfl
  refine ⟨fun hunset => ?_, ?_⟩
  · rw [Office.isOpen, hunset, Window.isOpen_unset]
  · rintro v m hset rfl
    rw [Office.isOpen, hset]
    exact ⟨fun h => Window.isOpen_withinDay h v, fun h => Window.isOpen_overMidnight h v,
      fun h => Window.isOpen_allDay h v⟩

/-- Settles O36: with nothing overriding, the resolver's plan is `planOf` of the kind, and the table's rows are its
values. -/
theorem bandPlanFollowsTheTable : Obligations.BandPlanFollowsTheTable := by
  refine fun s p k => ⟨fun hover => State.resolve_overridden hover k, fun c hc hsel hhold => ?_⟩
  have hplan := State.resolve_permitted hc hsel hhold
  refine ⟨fun hopen hband => ?_, fun hopen hband => ?_, fun hopen => ?_, fun hclosed => ?_⟩
  · simp only [hplan, hopen, hband]
    exact ⟨rfl, rfl⟩
  · simp only [hplan, hopen, hband]
    exact ⟨rfl, rfl⟩
  · simp only [hplan, hopen]
    exact ⟨rfl, rfl, rfl⟩
  · simp only [hplan, hclosed]
    exact ⟨rfl, rfl, rfl, rfl, rfl⟩
end

section
/-! SUPPORT. The boundary of a laser block in ACQUIRE (R82), the completion of a band (R83), and the entry into ANALYSE
(R89, R108). -/

namespace Sys2Proof.Machine

/-! ### The parts of the boundary -/

/-- The block sums added to the accumulators and cleared, with one block more done (R82). -/
def State.blockAdded (s : State) : State :=
  s.setEng { s.eng with
    accs := addSums s.eng.accs s.eng.sums, sums := [], blocksDone := s.eng.blocksDone + 1 }

/-- A band joins bands done (R83). -/
def State.bandJoined (s : State) (b : Band) : State :=
  s.setQueue (s.queue.setRun (fun x => { x with done := x.done.insert b }))

/-- The working trace of a band, as the engine holds its sums (R83, R95). -/
def Engine.traceOf (eng : Engine) (sn : Snapshot) (b : Band) : Trace :=
  convertBand sn ((eng.darks.at b).getD 0) eng.accs eng.clips

/-- The band's trace is put with the test's traces (R83). -/
def State.bandConverted (s : State) (sn : Snapshot) (b : Band) : State :=
  s.setEng { s.eng with traces := s.eng.traces.put b (some (s.eng.traceOf sn b)) }

/-- Band A leaves the plan (R52). -/
def State.withoutBandA (s : State) : State :=
  s.setQueue (s.queue.setRun (fun x => { x with plan := { x.plan with a := false } }))

/-- A working trace by its fields: every point converted from its accumulator, and the end index found among them (R95,
R96, R103). -/
theorem Engine.traceOf_spec (eng : Engine) (sn : Snapshot) (b : Band) :
    (eng.traceOf sn b).points.length = sn.points ∧ (eng.traceOf sn b).dark = (eng.darks.at b).getD 0 ∧
      (eng.traceOf sn b).endIndex = endIndexOf (eng.traceOf sn b).points sn.i0 sn.points ∧
      ∀ i, i < sn.points → (eng.traceOf sn b).points[i]? = some
        (convertPoint sn.averages sn.floorMargin (eng.traceOf sn b).dark (eng.accs.getD i 0)
          (eng.clips.getD i false)) := by
  refine ⟨by simp [Engine.traceOf, convertBand], rfl, rfl, fun i hi => ?_⟩
  simp [Engine.traceOf, convertBand, hi]

/-! ### The boundary by its cases (R82) -/

theorem State.boundary_laser {s : State} (hk : s.eng.kind = .laser) (hd : s.eng.state ≠ .draining) (sn : Snapshot)
    (b : Band) : s.boundary sn b = s.laserBoundary sn b := by
  simp only [State.boundary, hk, if_neg hd]

/-- The working data of a detached test are discarded, the block just added among them. -/
theorem State.laserBoundary_detached {s : State} (h : s.queue.running = none) (sn : Snapshot) (b : Band) :
    s.laserBoundary sn b = s.discardWork.leaveTest := by
  have hadded : s.laserBoundary sn b = s.blockAdded.cancelTest := by
    simp only [State.laserBoundary, h]
    rfl
  exact hadded.trans (s.blockAdded.endTest_of_none h ..)

/-- Cancel pending decides first, then whether the band's blocks are complete. -/
theorem State.laserBoundary_of_running {s : State} {e : Entry} {ri : RunInfo} (h : s.queue.running = some e)
    (hr : e.run = some ri) (sn : Snapshot) (b : Band) :
    s.laserBoundary sn b =
      if ri.cancelPending = true then
        (if 2 ^ sn.averages / 256 ≤ s.eng.blocksDone + 1 then (s.blockAdded.bandJoined b).cancelTest
        else s.blockAdded.cancelTest)
      else if 2 ^ sn.averages / 256 ≤ s.eng.blocksDone + 1 then s.blockAdded.completeBand sn b e ri
      else s.blockAdded.beginLaserBlock := by
  simp only [State.laserBoundary, h, hr]
  rfl

/-! ### The completion of a band (R52, R83) -/

/-- Band A follows a band B whose plan holds it while the owner's window is open. -/
theorem State.completeBand_bandAFollows {s : State} {e : Entry} {ri : RunInfo} (ha : ri.plan.a = true)
    (hw : s.ownerWindowOpen e.port = true) (sn : Snapshot) :
    s.completeBand sn .B e ri = ((s.bandJoined .B).bandConverted sn .B).beginBand .A := by
  simp only [State.completeBand, ha, hw, if_true]
  rfl

/-- Otherwise the test enters ANALYSE, without band A if it was still to come. -/
theorem State.completeBand_analyses {s : State} {e : Entry} {ri : RunInfo} {b : Band}
    (h : b = .A ∨ ri.plan.a = false ∨ s.ownerWindowOpen e.port = false) (sn : Snapshot) :
    s.completeBand sn b e ri =
      (if b = .B ∧ ri.plan.a = true then ((s.bandJoined b).bandConverted sn b).withoutBandA
        else (s.bandJoined b).bandConverted sn b).enterAnalyse sn e (ri.done.insert b) := by
  cases b with
  | A => rfl
  | B =>
    cases ha : ri.plan.a with
    | false =>
      simp only [State.completeBand, ha]
      rfl
    | true =>
      have hw : s.ownerWindowOpen e.port = false := (h.resolve_left nofun).resolve_left (by simp [ha])
      simp only [State.completeBand, ha, hw]
      rfl

/-- The engine as ANALYSE begins: the timer by the bands done, and their baselines read unless the test is itself a
BASELINE (R89, R108). -/
theorem State.enterAnalyse_eq (s : State) (sn : Snapshot) (e : Entry) (done : BandSet) :
    s.enterAnalyse sn e done = s.setEng { s.eng with
      state := .analyse, trigger := none, analysisTimer := some (2500 * sn.points * done.size)
      views := if e.kind = .baseline .A ∨ e.kind = .baseline .B then ⟨none, none⟩ else
        ⟨if done.a then some (s.store.view (slotOf e.port .A)) else none,
          if done.b then some (s.store.view (slotOf e.port .B)) else none⟩ } := by
  have hviews : (if e.kind.isBaseline = true then ⟨none, none⟩ else
      ⟨s.viewOf e.port done .A, s.viewOf e.port done .B⟩ : PerBand (Option View)) =
      if e.kind = .baseline .A ∨ e.kind = .baseline .B then ⟨none, none⟩ else
        ⟨if done.a then some (s.store.view (slotOf e.port .A)) else none,
          if done.b then some (s.store.view (slotOf e.port .B)) else none⟩ := by
    cases e.kind with
    | baseline b => cases b <;> rfl
    | routine | urgent | confirm => rfl
  rw [State.enterAnalyse, hviews]
  rfl

end Sys2Proof.Machine

open Sys2Proof
open Sys2Proof.Machine

/-- Settles O45: `State.blockAdded` is the state with the block added and `State.bandJoined` the one with the band among
bands done; the accumulators and the working trace are read off them. -/
theorem laserBoundaryFollowsItsCases : Obligations.LaserBoundaryFollowsItsCases := by
  refine ⟨fun s sn b hk hd hnone => ?_, fun s sn b e ri hk hd he hri => ?_⟩
  · rw [State.boundary_laser hk hd, State.laserBoundary_detached hnone, s.endTest_of_none hnone]
    exact ⟨rfl, rfl⟩
  · refine ⟨s.blockAdded.eng.accs, s.blockAdded.eng.traceOf sn b, getD_addSums _ _,
      s.blockAdded.eng.traceOf_spec sn b, ?_⟩
    rintro v w done rfl hv hw
    obtain rfl : v = s.blockAdded := hv
    obtain rfl : w = s.blockAdded.bandJoined b := hw
    rw [State.boundary_laser hk hd, State.laserBoundary_of_running he hri]
    refine ⟨fun hc hn => ?_, fun hc hn => ?_, fun hc hn => ?_, fun hc hn z hz => ?_⟩
    · rw [if_pos hc, if_neg (Nat.not_le.2 hn), State.cancelTest]
    · rw [if_pos hc, if_pos hn, State.cancelTest]
    · rw [hc, if_neg Bool.false_ne_true, if_neg (Nat.not_le.2 hn)]
    · rw [hc, if_neg Bool.false_ne_true, if_pos hn]
      obtain rfl : z = (s.blockAdded.bandJoined b).bandConverted sn b := hz
      refine ⟨?_, fun hlast y hy => ?_⟩
      · rintro rfl ha hopen
        exact State.completeBand_bandAFollows (s := s.blockAdded) ha hopen sn
      · rw [State.completeBand_analyses (s := s.blockAdded) hlast]
        obtain rfl : y = if b = .B ∧ ri.plan.a = true then
            ((s.blockAdded.bandJoined b).bandConverted sn b).withoutBandA
          else (s.blockAdded.bandJoined b).bandConverted sn b := hy
        rw [State.enterAnalyse_eq]
        split <;> rfl
end

section
/-! SUPPORT. What a command can do to the state, said once for all commands (`Occurs`). `KeptByEvents` allows the
selector to be replaced by any other; here a selector event is one that the selector's own rules give. -/

namespace Sys2Proof.Machine

/-- What the selector makes of an event of its own, with the engine HELD or not: the selector after it and its report
(R56, R57, R58, R63, R64, R68). -/
inductive Selector.Reacts (x : Selector) (held : Bool) : Selector × SelReport → Prop where
  | count (d : Dir) : x.Reacts held (x.takeCount d held)
  | error : x.Reacts held x.takeError
  | index : x.Reacts held (x.takeIndex held)
  | moveExpiry : x.Reacts held x.moveExpires
  | settleExpiry : x.Reacts held x.settleExpires
  | homingExpiry : x.Reacts held x.homingExpires

/-- What a command can do: change the highway, have a request's effect with the highway changed before and after, or be
an event of one of the blocks. -/
inductive Occurs (s : State) : State → Prop where
  | highway (x : Highway) : Occurs s (s.setHw x)
  | request (c : Client) (r : Request) (x y : Highway) : Occurs s ((handle c r (s.setHw x)).2.setHw y)
  | powerOn : Occurs s s.powerOn
  | tick : Occurs s s.tick
  | losEdge (p : PortNo) : Occurs s (s.losEdge p)
  | selector (x : Selector × SelReport) (reacts : s.sel.Reacts s.isHeld x) : Occurs s (s.selEvent x).arbitrate
  | shot (x : Samples) : Occurs s (s.endShot x)
  | analysis : Occurs s s.analysisExpires
  | programmed (r : ReadBack) : Occurs s (s.programmed r)
  | holdExpired : Occurs s s.holdExpired

theorem Occurs.refl (s : State) : Occurs s s := .highway s.hw

/-! ### The highway's commands -/

/-- A request delivered once the highway has changed is discarded or has its effect (R171). -/
theorem State.deliver_occurs (s : State) (x : Highway) (c : Client) (tag : Tag) (r : Request) :
    Occurs s ((s.setHw x).deliver c tag r) := by
  unfold State.deliver
  split
  · exact .highway _
  · exact .request ..

theorem State.deliverMessage_occurs (s : State) (x : Highway) (c : Client) (ws : List Word) :
    Occurs s ((s.setHw x).deliverMessage c ws) := by
  unfold State.deliverMessage
  split
  · exact .highway x
  · split
    · exact s.deliver_occurs ..
    · split <;> exact .highway _

theorem State.takeRequest_occurs (s : State) (c : Client) (tag : Tag) (r : Request) :
    Occurs s (s.takeRequest c tag r) := by
  unfold State.takeRequest
  split
  · exact s.deliver_occurs ..
  · exact .refl s

theorem State.takeMessage_occurs (s : State) (c : Client) (ws : List Word) : Occurs s (s.takeMessage c ws) := by
  unfold State.takeMessage
  split
  · exact s.deliverMessage_occurs ..
  · exact .refl s

theorem State.takeWord_occurs (s : State) (c : Client) (w : Word) : Occurs s (s.takeWord c w) := by
  unfold State.takeWord
  dsimp only
  split
  · split
    · exact .highway _
    · exact s.deliverMessage_occurs ..
  · exact .refl s

theorem State.sendWord_occurs (s : State) (x : Highway) (c : Client) : Occurs s ((s.setHw x).sendWord c) := by
  unfold State.sendWord
  dsimp only
  split <;> exact .highway _

theorem State.resync_occurs (s : State) (bit : Fin 128) : Occurs s (s.resync bit) := by
  unfold State.resync
  split
  · exact .refl s
  · split <;> exact .highway _

/-! ### Every command -/

/-- A command of one state has done one of these. -/
theorem exec_occurs {i : Instr} {s t : State} (h : exec i s = .next t) : Occurs s t := by
  have hnext : ∀ u, Host.Outcome.next u = Host.Outcome.next (φ := Fault) (ρ := Refusal) t → Occurs s u → Occurs s t := by
    rintro u ⟨⟩ hu
    exact hu
  cases i
  case powerOn => exact hnext _ h .powerOn
  case clockAdvance => exact hnext _ h .tick
  case losEdge p => exact hnext _ h (.losEdge p)
  case encoderCount e => exact hnext _ h (.selector _ (.count _))
  case encoderError => exact hnext _ h (.selector _ .error)
  case indexEdge => exact hnext _ h (.selector _ .index)
  case moveTimeout => exact hnext _ h (.selector _ .moveExpiry)
  case settleExpiry => exact hnext _ h (.selector _ .settleExpiry)
  case homingTimeout => exact hnext _ h (.selector _ .homingExpiry)
  case shot x => exact hnext _ h (.shot x)
  case darkBlockBoundary x | laserBlockBoundary x | drainedBlockBoundary x =>
    refine hnext _ h ?_
    split
    · exact .shot x
    · exact .refl s
  case analysisEnd => exact hnext _ h .analysis
  case programmingEnd r => exact hnext _ h (.programmed r)
  case holdTimerExpiry => exact hnext _ h .holdExpired
  case inboundWord c w => exact hnext _ h (s.takeWord_occurs c w)
  case malformed c ws | overrun c ws => exact hnext _ h (s.takeMessage_occurs c ws)
  case outboundSlot c =>
    refine hnext _ h ?_
    split
    · exact s.sendWord_occurs ..
    · split
      · exact s.sendWord_occurs (s.setFrame .aligned).slotEnd.hw c
      · exact .refl s
    all_goals exact .refl s
  case frameSync bit =>
    refine hnext _ h ?_
    split
    · exact s.resync_occurs bit
    · exact s.resync_occurs bit
    · exact .highway _
    · exact .refl s
  case highwayLoss =>
    refine hnext _ h ?_
    split
    · exact .refl s
    all_goals exact .highway _
  case highwayReturn | frameAlignment =>
    refine hnext _ h ?_
    split
    · exact .highway _
    all_goals exact .refl s
  all_goals exact hnext _ h (s.takeRequest_occurs ..)

/-- A step leaves the state as it was, or runs one command on the state without it. -/
theorem step_occurs {s t : State} (h : step s = .next t) : t = s ∨ ∃ rest, Occurs (s.setPending rest) t := by
  unfold step at h
  split at h
  · cases h
    exact .inl rfl
  · exact .inr ⟨_, exec_occurs h⟩

end Sys2Proof.Machine
end

section
/-! SUPPORT. The selector (chapter 4): what each of its checks and each of its events is, case by case, and what becomes
of a selector that a test waits for, or that is SETTLED (R56 to R72). -/

namespace Sys2Proof.Machine

/-! ### The checks (R61, R64, R70, R71) -/

section
variable {x : Selector} {p : PortNo} (ht : x.target = some p)
include ht

theorem Selector.offTarget_of_target : x.offTarget = true ↔ 1 < countDistance x.count (targetCount p) := by
  simp only [Selector.offTarget, ht, decide_eq_true_eq]

theorem Selector.matchCheck_there (h : x.count = targetCount p) :
    x.matchCheck = { x with state := .settling, settleTimer := some Config.settleTime } := by
  simp only [Selector.matchCheck, ht, if_pos h]

theorem Selector.matchCheck_away (h : x.count ≠ targetCount p) : x.matchCheck = x := by
  simp only [Selector.matchCheck, ht, if_neg h]

theorem Selector.disturbanceCheck_disturbed (h : x.offTarget = true) :
    x.disturbanceCheck false = (x.beginMove p, .disturbed) := by
  simp only [Selector.disturbanceCheck, if_pos h, ht]

end

theorem Selector.settleCheck_off {x : Selector} (h : x.offTarget = true) :
    x.settleCheck = { x with state := .moving, settleTimer := none } := if_pos h

theorem Selector.settleCheck_near {x : Selector} (h : x.offTarget = false) : x.settleCheck = x :=
  if_neg (Bool.eq_false_iff.1 h)

theorem Selector.disturbanceCheck_near {x : Selector} (h : x.offTarget = false) (held : Bool) :
    x.disturbanceCheck held = (x, .quiet) := if_neg (Bool.eq_false_iff.1 h)

theorem Selector.disturbanceCheck_held {x : Selector} (h : x.offTarget = true) :
    x.disturbanceCheck true = (x, .rotation) := if_pos h

/-! ### A count (R56, R62) -/

/-- The direction changes of the move once a count is taken (R62). -/
def Selector.changesAfter (x : Selector) (d : Dir) : Nat := if x.isReversal d then x.changes + 1 else x.changes

theorem Selector.changesAfter_eq (x : Selector) (d : Dir) :
    x.changesAfter d = if x.fresh = false ∧ d ≠ x.dir then x.changes + 1 else x.changes := by
  simp only [Selector.changesAfter, Selector.isReversal, Bool.and_eq_true, Bool.not_eq_true', decide_eq_true_eq]

theorem Selector.takeCount_driven {x : Selector} (h : x.state = .moving) {d : Dir} (hd : x.changesAfter d < 3)
    (held : Bool) :
    x.takeCount d held = (({ x.counted d with changes := x.changesAfter d } : Selector).matchCheck, .quiet) := by
  simp only [Selector.takeCount, h]
  exact if_neg (Nat.not_le.2 hd)

theorem Selector.takeCount_hunts {x : Selector} (h : x.state = .moving) {d : Dir} (hd : 3 ≤ x.changesAfter d)
    (held : Bool) :
    x.takeCount d held = (({ x.counted d with changes := x.changesAfter d } : Selector).failMove, .failure) := by
  simp only [Selector.takeCount, h]
  exact if_pos hd

theorem Selector.takeCount_settling {x : Selector} (h : x.state = .settling) (d : Dir) (held : Bool) :
    x.takeCount d held = ((x.counted d).settleCheck, .quiet) := by
  simp only [Selector.takeCount, h]

theorem Selector.takeCount_settled {x : Selector} (h : x.state = .settled) (d : Dir) (held : Bool) :
    x.takeCount d held = (x.counted d).disturbanceCheck held := by
  simp only [Selector.takeCount, h]

theorem Selector.takeCount_idle {x : Selector} (h : x.state = .lost ∨ x.state = .homing ∨ x.state = .fault) (d : Dir)
    (held : Bool) : x.takeCount d held = (x.counted d, .quiet) := by
  rcases h with h | h | h <;> simp only [Selector.takeCount, h]

/-! ### An index edge (R58) -/

theorem Selector.takeIndex_homing {x : Selector} (h : x.state = .homing) (held : Bool) :
    x.takeIndex held = (x.completeHoming, .quiet) := by
  simp only [Selector.takeIndex, h]

theorem Selector.takeIndex_idle {x : Selector} (h : x.state = .lost ∨ x.state = .fault) (held : Bool) :
    x.takeIndex held = (x, .quiet) := by
  rcases h with h | h <;> simp only [Selector.takeIndex, h]

theorem Selector.takeIndex_near {x : Selector} (hs : x.state ≠ .homing) (h : x.nearIndex = true) (held : Bool) :
    x.takeIndex held = (x, .quiet) := by
  unfold Selector.takeIndex
  split
  · exact absurd ‹_› hs
  all_goals simp only [h, if_true]

/-- The count corrected by a slip (R58). -/
def Selector.slipped (x : Selector) : Selector := { x with count := 0 }

section
variable {x : Selector} (h : x.nearIndex = false) (held : Bool)
include h

theorem Selector.takeIndex_moving (hs : x.state = .moving) : x.takeIndex held = (x.slipped.matchCheck, .quiet) := by
  simp only [Selector.takeIndex, hs, h, Bool.false_eq_true, if_false, Selector.slipped]

theorem Selector.takeIndex_settling (hs : x.state = .settling) : x.takeIndex held = (x.slipped.settleCheck, .quiet) := by
  simp only [Selector.takeIndex, hs, h, Bool.false_eq_true, if_false, Selector.slipped]

theorem Selector.takeIndex_settled (hs : x.state = .settled) : x.takeIndex held = x.slipped.disturbanceCheck held := by
  simp only [Selector.takeIndex, hs, h, Bool.false_eq_true, if_false, Selector.slipped]

end

/-! ### An encoder error and the timers (R57, R63, R64, R68) -/

theorem Selector.takeError_idle {x : Selector} (h : x.state = .lost ∨ x.state = .fault) : x.takeError = (x, .quiet) := by
  rcases h with h | h <;> simp only [Selector.takeError, h]

theorem Selector.takeError_homing {x : Selector} (h : x.state = .homing) : x.takeError = x.failHoming := by
  simp only [Selector.takeError, h]

theorem Selector.takeError_underWay {x : Selector} (h : x.state = .moving ∨ x.state = .settling) :
    x.takeError = (x.failMove, .failure) := by
  rcases h with h | h <;> simp only [Selector.takeError, h]

theorem Selector.takeError_settled {x : Selector} (h : x.state = .settled) :
    x.takeError = ({ x with state := .lost }, .lostSettled) := by
  simp only [Selector.takeError, h]

/-! ### A selector that a test waits for (R59) -/

/-- The selector is on its way to a port: in a move to it, or homing with the port pending (R59). -/
def Selector.OnWayTo (x : Selector) (p : PortNo) : Prop :=
  ((x.state = .moving ∨ x.state = .settling) ∧ x.target = some p) ∨ (x.state = .homing ∧ x.pendingTarget = some p)

/-- What a test waits for at a port: failure, arrival there, or nothing yet with the selector on its way (R59). -/
def Selector.Awaited (p : PortNo) (y : Selector × SelReport) : Prop :=
  y.2 = .failure ∨ (y.2 = .arrival ∧ y.1.state = .settled ∧ y.1.target = some p) ∨ (y.2 = .quiet ∧ y.1.OnWayTo p)

theorem Selector.Awaited.underWay {y : Selector} {p : PortNo} (h : y.state = .moving ∨ y.state = .settling)
    (ht : y.target = some p) : Selector.Awaited p (y, .quiet) := .inr (.inr ⟨rfl, .inl ⟨h, ht⟩⟩)

theorem Selector.beginMove_awaited (x : Selector) (p : PortNo) : Selector.Awaited p (x.beginMove p, .quiet) :=
  .underWay (x.beginMove_state p).symm rfl

/-- A position request is answered by failure, by arrival, or by a move or homing to the port (R59). -/
theorem Selector.request_awaited (x : Selector) (p : PortNo) : Selector.Awaited p (x.request p) := by
  unfold Selector.request
  split
  · split
    · rename_i hs h
      exact .inr (.inl ⟨rfl, hs, h.1⟩)
    · exact x.beginMove_awaited p
  · split
    · exact .underWay (.inl ‹_›) ‹_›
    · exact x.beginMove_awaited p
  · split
    · exact .underWay (.inr ‹_›) ‹_›
    · exact x.beginMove_awaited p
  · exact .inr (.inr ⟨rfl, .inr ⟨‹_›, rfl⟩⟩)
  · exact .inr (.inr ⟨rfl, .inr ⟨rfl, rfl⟩⟩)
  · exact .inl rfl

theorem Selector.matchCheck_awaited {x : Selector} {p : PortNo} (h : x.state = .moving) (ht : x.target = some p) :
    Selector.Awaited p (x.matchCheck, .quiet) := by
  by_cases hc : x.count = targetCount p
  · rw [Selector.matchCheck_there ht hc]
    exact .underWay (.inr rfl) ht
  · rw [Selector.matchCheck_away ht hc]
    exact .underWay (.inl h) ht

theorem Selector.settleCheck_awaited {x : Selector} {p : PortNo} (h : x.state = .settling) (ht : x.target = some p) :
    Selector.Awaited p (x.settleCheck, .quiet) := by
  cases ho : x.offTarget with
  | true =>
    rw [Selector.settleCheck_off ho]
    exact .underWay (.inl rfl) ht
  | false =>
    rw [Selector.settleCheck_near ho]
    exact .underWay (.inr h) ht

theorem Selector.takeCount_awaited {x : Selector} {p : PortNo} (h : x.OnWayTo p) (d : Dir) (held : Bool) :
    Selector.Awaited p (x.takeCount d held) := by
  rcases h with ⟨hs | hs, ht⟩ | ⟨hs, ht⟩
  · by_cases hd : x.changesAfter d < 3
    · rw [Selector.takeCount_driven hs hd]
      exact Selector.matchCheck_awaited hs ht
    · rw [Selector.takeCount_hunts hs (Nat.not_lt.1 hd)]
      exact .inl rfl
  · rw [Selector.takeCount_settling hs]
    exact Selector.settleCheck_awaited hs ht
  · rw [Selector.takeCount_idle (.inr (.inl hs))]
    exact .inr (.inr ⟨rfl, .inr ⟨hs, ht⟩⟩)

theorem Selector.takeIndex_awaited {x : Selector} {p : PortNo} (h : x.OnWayTo p) (held : Bool) :
    Selector.Awaited p (x.takeIndex held) := by
  rcases h with ⟨hs | hs, ht⟩ | ⟨hs, ht⟩
  · cases hn : x.nearIndex with
    | true => exact Selector.takeIndex_near (by simp [hs]) hn held ▸ .underWay (.inl hs) ht
    | false => exact Selector.takeIndex_moving hn held hs ▸ Selector.matchCheck_awaited hs ht
  · cases hn : x.nearIndex with
    | true => exact Selector.takeIndex_near (by simp [hs]) hn held ▸ .underWay (.inr hs) ht
    | false => exact Selector.takeIndex_settling hn held hs ▸ Selector.settleCheck_awaited hs ht
  · rw [Selector.takeIndex_homing hs, Selector.completeHoming, ht]
    exact Selector.beginMove_awaited _ p

/-- A homing that a test waits for reports its failure (R68). -/
theorem Selector.failHoming_awaited {x : Selector} {p : PortNo} (h : x.pendingTarget = some p) :
    Selector.Awaited p x.failHoming := .inl (by simp [Selector.failHoming, h])

theorem Selector.takeError_awaited {x : Selector} {p : PortNo} (h : x.OnWayTo p) : Selector.Awaited p x.takeError := by
  rcases h with ⟨hs, -⟩ | ⟨hs, ht⟩
  · exact Selector.takeError_underWay hs ▸ .inl rfl
  · exact Selector.takeError_homing hs ▸ Selector.failHoming_awaited ht

theorem Selector.OnWayTo.awaited {x : Selector} {p : PortNo} (h : x.OnWayTo p) : Selector.Awaited p (x, .quiet) :=
  .inr (.inr ⟨rfl, h⟩)

/-- A selector on its way to a port goes on, arrives there, or reports failure (R61 to R68). -/
theorem Selector.Reacts.awaited {x : Selector} {held : Bool} {y : Selector × SelReport} (hy : x.Reacts held y)
    {p : PortNo} (h : x.OnWayTo p) : Selector.Awaited p y := by
  cases hy with
  | count d => exact Selector.takeCount_awaited h d held
  | error => exact Selector.takeError_awaited h
  | index => exact Selector.takeIndex_awaited h held
  | moveExpiry =>
    unfold Selector.moveExpires
    split
    · exact .inl rfl
    · exact h.awaited
  | settleExpiry =>
    unfold Selector.settleExpires
    split
    · rename_i hs
      rcases h with ⟨-, ht⟩ | ⟨hh, -⟩
      · exact .inr (.inl ⟨rfl, rfl, ht⟩)
      · exact absurd (hs.2.symm.trans hh) (by decide)
    · exact h.awaited
  | homingExpiry =>
    unfold Selector.homingExpires
    split
    · rename_i hs
      rcases h with ⟨hm, -⟩ | ⟨-, ht⟩
      · rcases hm with hm | hm <;> exact absurd (hs.2.symm.trans hm) (by decide)
      · exact Selector.failHoming_awaited ht
    · exact h.awaited

/-! ### A SETTLED selector (R70, R72) -/

/-- A SETTLED selector stays at its target with nothing to report, or reports that it does not (R57, R70). -/
def Selector.StaysOrReports (x : Selector) (y : Selector × SelReport) : Prop :=
  y.2 = .disturbed ∨ y.2 = .lostSettled ∨ (y.2 = .quiet ∧ y.1.state = .settled ∧ y.1.target = x.target)

theorem Selector.disturbanceCheck_reports {x : Selector} (h : x.state = .settled) :
    x.StaysOrReports (x.disturbanceCheck false) := by
  cases ho : x.offTarget with
  | true =>
    obtain ⟨q, ht, -⟩ := (Selector.offTarget_iff x).1 ho
    exact Selector.disturbanceCheck_disturbed ht ho ▸ .inl rfl
  | false => exact Selector.disturbanceCheck_near ho false ▸ .inr (.inr ⟨rfl, h, rfl⟩)

/-- While the engine is not HELD a SETTLED selector leaves its target only with a report (R57, R70). -/
theorem Selector.Reacts.settled {x : Selector} {y : Selector × SelReport} (hy : x.Reacts false y)
    (h : x.state = .settled) : x.StaysOrReports y := by
  have hstays : x.StaysOrReports (x, .quiet) := .inr (.inr ⟨rfl, h, rfl⟩)
  cases hy with
  | count d =>
    rw [Selector.takeCount_settled h]
    exact Selector.disturbanceCheck_reports (x := x.counted d) h
  | error => exact Selector.takeError_settled h ▸ .inr (.inl rfl)
  | index =>
    cases hn : x.nearIndex with
    | true => exact Selector.takeIndex_near (by simp [h]) hn false ▸ hstays
    | false =>
      rw [Selector.takeIndex_settled hn false h]
      exact Selector.disturbanceCheck_reports (x := x.slipped) h
  | moveExpiry => rwa [Selector.moveExpires, if_neg (by simp [h])]
  | settleExpiry => rwa [Selector.settleExpires, if_neg (by simp [h])]
  | homingExpiry => rwa [Selector.homingExpires, if_neg (by simp [h])]

end Sys2Proof.Machine
end

section
/-! SUPPORT. The lasers, the selector under a test and the hold (`LaserInv`, `LightInv`, `HoldInv`): the two kinds of
state an operation on the test in hand ends in, and what a report of the selector leads to. -/

namespace Sys2Proof.Machine

/-! ### The port of the test in hand -/

/-- The port of the RUNNING test. -/
def State.testPort (s : State) : Option PortNo := s.queue.running.map (fun e => e.port)

theorem State.testPort_eq_some (s : State) (p : PortNo) :
    s.testPort = some p ↔ ∃ e, s.queue.running = some e ∧ e.port = p := Option.map_eq_some_iff

theorem State.testPort_congr {s t : State} (h : t.queue.running = s.queue.running) : t.testPort = s.testPort := by
  rw [State.testPort, h, State.testPort]

/-- A change of the RUNNING entry's fields moves no test to another port (R33). -/
theorem State.testPort_setRun {s t : State} {f : RunInfo → RunInfo} (h : t.queue = s.queue.setRun f) :
    t.testPort = s.testPort := by
  rw [State.testPort, h, TestQueue.setRun_running, Option.map_map]
  rfl

/-- `LightInv` by the port of the test in hand: on the way to it in POSITION, settled at it while a block is shot. -/
theorem lightInv_iff (s : State) :
    LightInv s ↔ (s.eng.state = .position → ∀ p, s.testPort = some p → s.sel.OnWayTo p) ∧
      (s.eng.state.shooting = true →
        s.sel.state = .settled ∧ ∀ p, s.testPort = some p → s.sel.target = some p) := by
  simp only [LightInv, Selector.OnWayTo, State.testPort_eq_some, forall_exists_index, and_imp,
    forall_apply_eq_imp_iff₂]

/-! ### Engines at rest -/

/-- No laser is triggered, and the engine is IDLE, in ANALYSE, or HELD with a client in the hold set. -/
def State.Resting (s : State) : Prop :=
  s.eng.trigger = none ∧
    (s.eng.state = .idle ∨ s.eng.state = .analyse ∨ (s.eng.state = .held ∧ ∃ c, s.hold.members.at c = true))

theorem laserInv_of_dark {s : State} (h : s.eng.trigger = none) : LaserInv s := by
  intro b hb
  rw [h] at hb
  cases hb

theorem State.Resting.laserInv {s : State} (h : s.Resting) : LaserInv s := laserInv_of_dark h.1

theorem lightInv_of_rest {s : State} (h : s.eng.state = .idle ∨ s.eng.state = .analyse ∨ s.eng.state = .held) :
    LightInv s := by
  rcases h with h | h | h <;> simp [LightInv, h, EngState.shooting]

theorem State.Resting.lightInv {s : State} (h : s.Resting) : LightInv s :=
  lightInv_of_rest (h.2.imp_right (Or.imp_right And.left))

theorem State.Resting.holdInv {s : State} (h : s.Resting) : HoldInv s := by
  rintro hs
  rcases h.2 with hi | ha | ⟨-, hm⟩
  · simp [hi] at hs
  · simp [ha] at hs
  · exact hm

theorem State.enterHeld_resting {s : State} (h : ∃ c, s.hold.members.at c = true) : s.enterHeld.Resting :=
  ⟨rfl, .inr (.inr ⟨rfl, h⟩)⟩

/-- The engine after a test (R35, R88). -/
theorem State.leaveTest_resting {s : State} (h : s.eng.trigger = none) : s.leaveTest.Resting := by
  by_cases hm : ∃ c, s.hold.members.at c = true
  · by_cases hs : s.eng.state = .held
    · rw [State.leaveTest_of_held hm hs]
      exact ⟨h, .inr (.inr ⟨hs, hm⟩)⟩
    · rw [State.leaveTest_of_hold hm hs]
      exact State.enterHeld_resting hm
  · rw [State.leaveTest_of_noHold (by simpa using hm)]
    exact ⟨h, .inl rfl⟩

theorem State.endTest_resting (s : State) (status : Status) (cause : Option Cause) (r : Report) (full : Bool) :
    (s.endTest status cause r full).Resting := by
  cases h : s.queue.running with
  | none =>
    rw [s.endTest_of_none h]
    exact State.leaveTest_resting rfl
  | some e =>
    obtain ⟨ri, hri⟩ := Option.isSome_iff_exists.1 (TestQueue.running_eq_some h).2
    rw [s.endTest_of_running h hri]
    exact State.leaveTest_resting rfl

theorem State.cancelTest_resting (s : State) : s.cancelTest.Resting := State.endTest_resting ..

theorem State.abort_resting (s : State) (c : Cause) : (s.abort c).Resting := by
  unfold State.abort
  (repeat' split) <;> exact State.endTest_resting ..

theorem State.park_resting {s : State} (h : ∃ c, s.hold.members.at c = true) (x : ResumePoint) : (s.park x).Resting :=
  State.enterHeld_resting h

theorem State.enterAnalyse_resting (s : State) (sn : Snapshot) (e : Entry) (done : BandSet) :
    (s.enterAnalyse sn e done).Resting := ⟨rfl, .inr (.inl rfl)⟩

/-! ### Blocks that begin -/

/-- A shot is started with its band's laser only in ACQUIRE, in a laser block, under the permit (R79, R85). -/
theorem Engine.startShot_trigger {eng : Engine} {permit : Bool} {b : Band}
    (h : (eng.startShot permit).trigger = some b) :
    eng.state = .acquire ∧ eng.kind = .laser ∧ eng.band = some b ∧ permit = true := by
  simp only [Engine.startShot] at h
  split at h
  · rename_i hc
    exact ⟨hc.1, hc.2.1, h, hc.2.2⟩
  · cases h

theorem laserInv_of_startShot {s : State} {eng : Engine} (h : s.eng = eng.startShot s.sel.permit) : LaserInv s := by
  intro b hb
  rw [h] at hb ⊢
  obtain ⟨hs, hk, hband, hp⟩ := Engine.startShot_trigger hb
  exact ⟨hs, hk, hband, of_decide_eq_true hp⟩

/-- A block has begun: the engine in DARK or ACQUIRE, and no laser triggered without the permit (R80, R85). -/
def State.Begun (s : State) : Prop := (s.eng.state = .dark ∨ s.eng.state = .acquire) ∧ LaserInv s

theorem State.Begun.holdInv {s : State} (h : s.Begun) : HoldInv s := by
  intro hs
  rcases h.1 with h | h <;> simp [h] at hs

/-- A block begun at the port of the test in hand (R72). -/
theorem State.Begun.lightInv {s : State} (h : s.Begun) (hs : s.sel.state = .settled)
    (ht : ∀ p, s.testPort = some p → s.sel.target = some p) : LightInv s := by
  refine (lightInv_iff s).2 ⟨fun hp => ?_, fun _ => ⟨hs, ht⟩⟩
  rcases h.1 with h | h <;> exact absurd (h.symm.trans hp) (by decide)

theorem State.beginBand_begun (s : State) (b : Band) : (s.beginBand b).Begun :=
  ⟨.inl rfl, laserInv_of_startShot rfl⟩

theorem State.beginLaserBlock_begun (s : State) : s.beginLaserBlock.Begun := ⟨.inr rfl, laserInv_of_startShot rfl⟩

/-- A test that goes on begins a band or a laser block (R78, R161). -/
theorem State.goOn_begun (s : State) (ri : RunInfo) : (s.goOn ri).Begun := by
  unfold State.goOn
  dsimp only
  split
  · split
    · exact State.beginBand_begun ..
    · exact State.beginLaserBlock_begun _
  · split
    · exact State.beginBand_begun ..
    · exact State.beginLaserBlock_begun _
  · exact State.beginBand_begun ..

theorem State.goOn_testPort (s : State) (ri : RunInfo) : (s.goOn ri).testPort = s.testPort := by
  obtain ⟨eng, hgo, -⟩ := s.goOn_eq ri
  exact State.testPort_setRun (by rw [hgo]; rfl)

/-! ### Reports of the selector -/

/-- What a report of the selector leads to: the test has ended or is parked, it goes on at arrival, or the engine
and the hold set are as they were. -/
inductive State.Heeded (s : State) (x : SelReport) (t : State) : Prop where
  | rests (resting : t.Resting)
  | goesOn (begun : t.Begun) (arrival : x = .arrival) (position : s.eng.state = .position) (sel : t.sel = s.sel)
      (port : t.testPort = s.testPort) (test : ∃ p, s.testPort = some p)
  | kept (h : HoldUnit) (eq : t = s.setHold h) (members : h.members = s.hold.members)
      (position : s.eng.state = .position → x ≠ .arrival ∧ x ≠ .failure)
      (shooting : s.eng.state.shooting = true → x ≠ .disturbed ∧ x ≠ .lostSettled)

/-- Arrival ends the test, parks it, or lets it go on (R78, R158, R161). -/
theorem State.arrive_heeded (s : State) (hs : s.eng.state = .position) : s.Heeded .arrival s.arrive := by
  unfold State.arrive
  split
  · rename_i _ _ _ _ _ ri hr
    split
    · exact .rests (State.cancelTest_resting _)
    · split
      · exact .goesOn (s.goOn_begun ri) rfl hs (s.goOn_sel ri) (s.goOn_testPort ri)
          ⟨_, (s.testPort_eq_some _).2 ⟨_, hr, rfl⟩⟩
      · exact .rests (State.park_resting ((HoldUnit.isEmpty_eq_false_iff _).1 (Bool.eq_false_iff.2 ‹_›)) _)
  · exact .rests (State.cancelTest_resting _)

theorem State.markRestart_eq (s : State) :
    ∃ h : HoldUnit, s.markRestart = s.setHold h ∧ h.members = s.hold.members ∧ h.timer = s.hold.timer := by
  unfold State.markRestart
  split
  · exact ⟨_, rfl, rfl, rfl⟩
  · exact ⟨_, s.setHold_self.symm, rfl, rfl⟩

theorem State.heed_heeded (s : State) (x : SelReport) : s.Heeded x (s.heed x) := by
  obtain ⟨h, hmark, hmembers, -⟩ := s.markRestart_eq
  cases x with
  | quiet => exact .kept s.hold rfl rfl (fun _ => ⟨nofun, nofun⟩) fun _ => ⟨nofun, nofun⟩
  | rotation =>
    exact .kept h hmark hmembers (fun _ => ⟨nofun, nofun⟩) fun _ => ⟨nofun, nofun⟩
  | arrival =>
    unfold State.heed
    dsimp only
    split
    · exact s.arrive_heeded ‹_›
    · exact .kept s.hold rfl rfl (fun hp => absurd hp ‹_›) fun _ => ⟨nofun, nofun⟩
  | failure =>
    unfold State.heed
    dsimp only
    split
    · exact .rests (State.abort_resting ..)
    · exact .kept s.hold rfl rfl (fun hp => absurd hp ‹_›) fun _ => ⟨nofun, nofun⟩
  | disturbed =>
    unfold State.heed
    dsimp only
    split
    · exact .rests (State.abort_resting ..)
    · exact .kept s.hold rfl rfl (fun _ => ⟨nofun, nofun⟩) fun hs => absurd hs ‹_›
  | lostSettled =>
    unfold State.heed
    dsimp only
    split
    · exact .rests (State.abort_resting ..)
    · exact .kept h hmark hmembers (fun _ => ⟨nofun, nofun⟩) fun hs => absurd hs ‹_›

theorem State.selEvent_heeded (s : State) (y : Selector × SelReport) : (s.setSel y.1).Heeded y.2 (s.selEvent y) :=
  State.heed_heeded ..

/-- No report of the selector makes the engine HELD or DRAINING without a client in the hold set (R158, R159). -/
theorem State.selEvent_holdInv {s : State} (y : Selector × SelReport) (hs : HoldInv s) : HoldInv (s.selEvent y) := by
  cases s.selEvent_heeded y with
  | rests resting => exact resting.holdInv
  | goesOn begun => exact begun.holdInv
  | kept h eq members =>
    rw [eq]
    intro hst
    obtain ⟨c, hc⟩ := hs hst
    refine ⟨c, ?_⟩
    change h.members.at c = true
    rwa [members]

/-- With no laser triggered a report triggers one only under the permit (R72, R85). -/
theorem State.selEvent_laserInv_of_dark {s : State} (y : Selector × SelReport) (h : s.eng.trigger = none) :
    LaserInv (s.selEvent y) := by
  cases s.selEvent_heeded y with
  | rests resting => exact resting.laserInv
  | goesOn begun => exact begun.2
  | kept _ eq =>
    rw [eq]
    exact laserInv_of_dark h

/-- What a test in POSITION waits for keeps the selector on its way to the test's port, or begins its first block
there (R59, R78). -/
theorem State.selEvent_lightInv_of_awaited {s : State} {y : Selector × SelReport} {p : PortNo}
    (hs : s.eng.state = .position) (hy : Selector.Awaited p y) (hp : ∀ q, s.testPort = some q → q = p) :
    LightInv (s.selEvent y) := by
  obtain ⟨x, r⟩ := y
  cases s.selEvent_heeded (x, r) with
  | rests resting => exact resting.lightInv
  | goesOn begun arrival _ sel port =>
    rcases hy with hr | ⟨-, hx, ht⟩ | ⟨hr, -⟩
    · cases hr.symm.trans arrival
    · refine begun.lightInv (by rw [sel]; exact hx) fun q hq => ?_
      rw [sel, hp q (port.symm.trans hq)]
      exact ht
    · cases hr.symm.trans arrival
  | kept h eq _ position =>
    rw [eq]
    obtain ⟨harrival, hfailure⟩ := position hs
    refine (lightInv_iff _).2 ⟨fun _ q hq => ?_, fun hsh => ?_⟩
    · rcases hy with hr | ⟨hr, -⟩ | ⟨-, hx⟩
      · exact absurd hr hfailure
      · exact absurd hr harrival
      · exact hp q hq ▸ hx
    · change s.eng.state.shooting = true at hsh
      rw [hs] at hsh
      cases hsh

/-- An event of the selector's own triggers no laser without the permit: a SETTLED selector that leaves its target has
the test ended (R70, R72, R85). -/
theorem State.selEvent_laserInv {s : State} {y : Selector × SelReport} (hy : s.sel.Reacts s.isHeld y)
    (hs : LaserInv s) : LaserInv (s.selEvent y) := by
  cases htr : s.eng.trigger with
  | none => exact s.selEvent_laserInv_of_dark y htr
  | some b =>
    obtain ⟨hst, hk, hb, hsel⟩ := hs b htr
    have hheld : s.isHeld = false := by simp [State.isHeld, hst]
    have hshoot : s.eng.state.shooting = true := by rw [hst]; rfl
    have hstays := (hheld ▸ hy).settled hsel
    cases s.selEvent_heeded y with
    | rests resting => exact resting.laserInv
    | goesOn begun => exact begun.2
    | kept h eq _ _ shooting =>
      rw [eq]
      obtain ⟨hd, hl⟩ := shooting hshoot
      rcases hstays with hr | hr | ⟨-, hx, -⟩
      · exact absurd hr hd
      · exact absurd hr hl
      · intro c hc
        obtain rfl : b = c := Option.some.inj (htr.symm.trans hc)
        exact ⟨hst, hk, hb, hx⟩

/-- An event of the selector's own keeps it on its way to the port of the test in POSITION, and SETTLED there while a
block is shot (R59, R70, R72). -/
theorem State.selEvent_lightInv {s : State} {y : Selector × SelReport} (hy : s.sel.Reacts s.isHeld y)
    (hs : LightInv s) : LightInv (s.selEvent y) := by
  obtain ⟨hposition, hshooting⟩ := (lightInv_iff s).1 hs
  by_cases hp : s.eng.state = .position ∧ ∃ p, s.testPort = some p
  · obtain ⟨hst, p, htest⟩ := hp
    exact State.selEvent_lightInv_of_awaited hst (hy.awaited (hposition hst p htest)) fun q hq =>
      Option.some.inj (hq.symm.trans htest)
  · cases s.selEvent_heeded y with
    | rests resting => exact resting.lightInv
    | goesOn _ _ position _ _ test => exact absurd ⟨position, test⟩ hp
    | kept h eq _ _ shooting =>
      rw [eq]
      refine (lightInv_iff _).2 ⟨fun hst q hq => absurd ⟨hst, q, hq⟩ hp, fun hsh => ?_⟩
      obtain ⟨hd, hl⟩ := shooting hsh
      have hheld : s.isHeld = false := decide_eq_false fun hh => by
        change s.eng.state.shooting = true at hsh
        rw [hh] at hsh
        cases hsh
      obtain ⟨hsel, htarget⟩ := hshooting hsh
      rcases (hheld ▸ hy).settled hsel with hr | hr | ⟨-, hx, ht⟩
      · exact absurd hr hd
      · exact absurd hr hl
      · exact ⟨hx, fun q hq => ht.trans (htarget q hq)⟩

end Sys2Proof.Machine
end

section
/-! SUPPORT. HOLD and the end of a hold, case by case (R157 to R161). -/

namespace Sys2Proof.Machine

/-! ### A client joins the hold set (R157, R158) -/

/-- The state with a client in the hold set, and nothing made of it yet. -/
def State.withMember (s : State) (c : Client) : State :=
  s.setHold { s.hold with members := s.hold.members.put c true }

theorem State.withMember_member (s : State) (c : Client) : (s.withMember c).hold.members.at c = true :=
  Tab.at_put_same ..

theorem State.joinHold_of_member {s : State} {c : Client} (h : s.hold.members.at c = true) : s.joinHold c = s := if_pos h

section
variable {s : State} {c : Client} (h : s.hold.members.at c = false)
include h

theorem State.joinHold_of_others (hm : ∃ d, s.hold.members.at d = true) : s.joinHold c = s.withMember c := by
  rw [State.joinHold, h, if_neg Bool.false_ne_true, (HoldUnit.isEmpty_eq_false_iff _).2 hm]
  exact if_neg Bool.false_ne_true

variable (hm : ∀ d, s.hold.members.at d = false)
include hm

theorem State.joinHold_of_idle (hs : s.eng.state = .idle) : s.joinHold c = (s.withMember c).enterHeld := by
  simp only [State.joinHold, h, (HoldUnit.isEmpty_iff _).2 hm, hs]
  rfl

theorem State.joinHold_of_block (hs : s.eng.state = .dark ∨ s.eng.state = .acquire) :
    s.joinHold c = (s.withMember c).setEng { s.eng with state := .draining, trigger := none } := by
  rcases hs with hs | hs
  all_goals
    simp only [State.joinHold, h, (HoldUnit.isEmpty_iff _).2 hm, hs]
    rfl

theorem State.joinHold_of_later
    (hs : s.eng.state = .position ∨ s.eng.state = .analyse ∨ s.eng.state = .draining ∨ s.eng.state = .held) :
    s.joinHold c = s.withMember c := by
  rcases hs with hs | hs | hs | hs
  all_goals
    simp only [State.joinHold, h, (HoldUnit.isEmpty_iff _).2 hm, hs]
    rfl

end

/-! ### The end of a hold (R160, R161) -/

section
variable {s : State}

theorem State.releaseHold_of_darkBlock (hs : s.eng.state = .draining) (hk : s.eng.kind = .dark) :
    s.releaseHold = s.setEng { s.eng with state := .dark } := by
  simp only [State.releaseHold, hs, hk]

theorem State.releaseHold_of_laserBlock (hs : s.eng.state = .draining) (hk : s.eng.kind = .laser) :
    s.releaseHold = s.setEng (({ s.eng with state := .acquire, sums := [] } : Engine).startBlock s.sel.permit) := by
  simp only [State.releaseHold, hs, hk]

theorem State.releaseHold_of_noTest (hs : s.eng.state = .held) (hr : s.queue.running = none) :
    s.releaseHold =
      (((s.setHold { s.hold with timer := none }).setEng { s.eng with state := .idle }).clearMark).redrive := by
  simp only [State.releaseHold, hs, hr]
  rfl

theorem State.releaseHold_of_other (hd : s.eng.state ≠ .draining) (hh : s.eng.state ≠ .held) : s.releaseHold = s := by
  unfold State.releaseHold
  split
  · exact absurd ‹_› hd
  · exact absurd ‹_› hh
  · rfl

end

end Sys2Proof.Machine
end

section
/-! SUPPORT. What keeps the three invariants of the light (`Guarded`), and that the arbiter, the block boundaries and the
hold do. -/

namespace Sys2Proof.Machine

theorem Moves.queueInv {s t : State} (h : Moves s t) : QueueInv s → QueueInv t := h.keeps fun _ _ => Move.queueInv

/-- What keeps the queue's form, the lasers dark but in ACQUIRE at a SETTLED selector, the selector under the
test, and the engine HELD or DRAINING only for clients that hold (R72, R85, R158). -/
structure Guarded (s t : State) : Prop where
  queue : QueueInv s → QueueInv t
  laser : LaserInv s → LaserInv t
  light : QueueInv s → LightInv s → LightInv t
  hold : HoldInv s → HoldInv t

theorem Guarded.refl (s : State) : Guarded s s := ⟨id, id, fun _ => id, id⟩

theorem Guarded.of_eq {s t : State} (h : t = s) : Guarded s t := h ▸ .refl s

theorem Guarded.trans {s t u : State} (h : Guarded s t) (h' : Guarded t u) : Guarded s u where
  queue hs := h'.queue (h.queue hs)
  laser hs := h'.laser (h.laser hs)
  light hq hs := h'.light (h.queue hq) (h.light hq hs)
  hold hs := h'.hold (h.hold hs)

theorem Guarded.of_resting {s t : State} (h : QueueInv s → QueueInv t) (ht : t.Resting) : Guarded s t :=
  ⟨h, fun _ => ht.laserInv, fun _ _ => ht.lightInv, fun _ => ht.holdInv⟩

/-- A block begins in the place of the one that was shot. -/
theorem Guarded.of_begun {s t : State} (h : QueueInv s → QueueInv t) (hs : s.eng.state.shooting = true) (ht : t.Begun)
    (sel : t.sel = s.sel) (port : t.testPort = s.testPort) : Guarded s t where
  queue := h
  laser _ := ht.2
  light _ hl := by
    obtain ⟨hsel, htarget⟩ := ((lightInv_iff s).1 hl).2 hs
    exact ht.lightInv (sel ▸ hsel) fun p hp => by rw [sel]; exact htarget p (port ▸ hp)
  hold _ := ht.holdInv

/-- The engine's state, the selector and the hold set are as they were, and no laser is triggered anew; the test in hand
is at its port still, or gone. -/
theorem Guarded.of_still {s t : State} (h : QueueInv s → QueueInv t) (laser : LaserInv s → LaserInv t)
    (state : t.eng.state = s.eng.state) (sel : t.sel = s.sel) (members : t.hold.members = s.hold.members)
    (port : QueueInv s → t.testPort = none ∨ t.testPort = s.testPort) : Guarded s t where
  queue := h
  laser := laser
  light hq hl := by
    rw [lightInv_iff] at hl ⊢
    rw [state, sel]
    have hsub : ∀ p, t.testPort = some p → s.testPort = some p := fun p hp => by
      rcases port hq with hn | he
      · cases hn.symm.trans hp
      · exact he.symm.trans hp
    exact ⟨fun hs p hp => hl.1 hs p (hsub p hp), fun hs => ⟨(hl.2 hs).1, fun p hp => (hl.2 hs).2 p (hsub p hp)⟩⟩
  hold hs := by
    intro ht
    rw [state] at ht
    rw [members]
    exact hs ht

/-- A change that leaves the engine, the selector and the hold set as they were. -/
theorem Guarded.quiet {s t : State} (h : QueueInv s → QueueInv t) (eng : t.eng = s.eng) (sel : t.sel = s.sel)
    (members : t.hold.members = s.hold.members) (running : t.queue.running = s.queue.running) : Guarded s t := by
  refine .of_still h ?_ (by rw [eng]) sel members fun _ => .inr (State.testPort_congr running)
  rw [LaserInv, LaserInv, eng, sel]
  exact id

theorem Guarded.setHw (s : State) (x : Highway) : Guarded s (s.setHw x) := .quiet id rfl rfl rfl rfl

/-! ### The arbiter (R30, R33) -/

/-- The port of the started test is the chosen entry's: no other entry has its ticket (R21, R33). -/
theorem State.prepared_testPort {s : State} (hs : QueueInv s) (hi : s.eng.state = .idle) {e : Entry}
    (he : e ∈ s.queue.entries) (pointer : Client) (p : PortNo) (hp : (s.prepared e pointer).testPort = some p) :
    p = e.port := by
  obtain ⟨hform, hnone⟩ := (queueInv_iff s).1 hs
  obtain ⟨x, hx, rfl⟩ := (State.testPort_eq_some _ p).1 hp
  obtain ⟨hmem, hrun⟩ := TestQueue.running_eq_some hx
  change x ∈ (s.queue.start e.ticket (s.resolve e.port e.kind)).entries at hmem
  rw [TestQueue.start_entries] at hmem
  obtain ⟨y, hy, rfl⟩ := List.mem_map.1 hmem
  have hticket : y.ticket = e.ticket := by
    by_contra hne
    rw [Entry.started, if_neg hne, (TestQueue.running_eq_none _).1 (hnone hi) y hy] at hrun
    cases hrun
  rw [eq_of_nodup_map _ _ hform.2.1 hy he hticket, Entry.started_port]

/-- The arbiter's choice sends the selector to the test's port, or begins its first block there (R33, R59, R78). -/
theorem State.arbitrate_guarded (s : State) : Guarded s s.arbitrate := by
  have hqueue := s.arbitrate_work.moves.queueInv
  cases hm : s.mayChoose with
  | false => exact .of_eq (State.arbitrate_of_not_mayChoose hm)
  | true =>
    cases hc : s.choose with
    | none => exact .of_eq (State.arbitrate_of_choiceInv fun _ => (s.choose_eq_none_iff).1 hc)
    | some x =>
      obtain ⟨e, pointer⟩ := x
      rw [State.arbitrate_of_choose hm hc, State.startTest_eq] at hqueue ⊢
      refine ⟨hqueue, fun _ => State.selEvent_laserInv_of_dark _ rfl, fun hq _ => ?_,
        fun _ => State.selEvent_holdInv _ nofun⟩
      exact State.selEvent_lightInv_of_awaited rfl (Selector.request_awaited _ _)
        (State.prepared_testPort hq ((s.mayChoose_iff).1 hm).1 (State.choose_mem hc) pointer)

theorem Guarded.arbitrated {s t : State} (h : Guarded s t) : Guarded s t.arbitrate := h.trans t.arbitrate_guarded

/-! ### Block boundaries (R81, R82, R84) -/

/-- How a block ends: the test ends or is analysed, the next block begins, or a drained test is parked. -/
inductive State.BlockEnded (s t : State) : Prop where
  | rests (resting : t.Resting)
  | begins (begun : t.Begun) (sel : t.sel = s.sel) (port : t.testPort = s.testPort)
  | parks (u : State) (x : ResumePoint) (eq : t = u.park x) (drained : s.eng.state = .draining)
      (members : u.hold.members = s.hold.members)

theorem Guarded.of_blockEnded {s t : State} (h : QueueInv s → QueueInv t) (hs : s.eng.state.shooting = true) (ht : s.BlockEnded t) :
    Guarded s t := by
  cases ht with
  | rests resting => exact .of_resting h resting
  | begins begun sel port => exact .of_begun h hs begun sel port
  | parks u x eq drained members =>
    rw [eq] at h ⊢
    refine ⟨h, fun _ => laserInv_of_dark rfl, fun _ _ => lightInv_of_rest (.inr (.inr rfl)), fun hh _ => ?_⟩
    obtain ⟨c, hc⟩ := hh (.inr drained)
    refine ⟨c, ?_⟩
    change u.hold.members.at c = true
    rwa [members]

theorem State.darkBoundary_ended (s : State) (sn : Snapshot) (b : Band) : s.BlockEnded (s.darkBoundary sn b) := by
  unfold State.darkBoundary
  dsimp only
  split
  · split
    · exact .rests (State.cancelTest_resting _)
    · split
      · exact .parks _ _ rfl ‹_› rfl
      · exact .begins (State.beginLaserBlock_begun _) rfl rfl
  · exact .rests (State.cancelTest_resting _)

theorem State.drainedBoundary_ended (s : State) (hs : s.eng.state = .draining) : s.BlockEnded s.drainedBoundary := by
  unfold State.drainedBoundary
  dsimp only
  split
  · split
    · exact .rests (State.cancelTest_resting _)
    · exact .parks _ _ rfl hs rfl
  · exact .rests (State.cancelTest_resting _)

theorem State.completeBand_ended (s : State) (sn : Snapshot) (b : Band) (e : Entry) (ri : RunInfo) :
    s.BlockEnded (s.completeBand sn b e ri) := by
  unfold State.completeBand
  dsimp only
  cases b with
  | A => exact .rests (State.enterAnalyse_resting ..)
  | B =>
    dsimp only
    split
    · split
      · exact .begins (State.beginBand_begun ..) rfl (State.testPort_setRun rfl)
      · exact .rests (State.enterAnalyse_resting ..)
    · exact .rests (State.enterAnalyse_resting ..)

theorem State.laserBoundary_ended (s : State) (sn : Snapshot) (b : Band) : s.BlockEnded (s.laserBoundary sn b) := by
  unfold State.laserBoundary
  dsimp only
  split
  · split
    · split
      · split <;> exact .rests (State.cancelTest_resting _)
      · split
        · cases State.completeBand_ended (s.setEng { s.eng with
            accs := addSums s.eng.accs s.eng.sums, sums := [], blocksDone := s.eng.blocksDone + 1 }) sn b _ _ with
          | rests resting => exact .rests resting
          | begins begun sel port => exact .begins begun sel port
          | parks u x eq drained members => exact .parks u x eq drained members
        · exact .begins (State.beginLaserBlock_begun _) rfl rfl
    · exact .rests (State.cancelTest_resting _)
  · exact .rests (State.cancelTest_resting _)

theorem State.boundary_ended (s : State) (sn : Snapshot) (b : Band) : s.BlockEnded (s.boundary sn b) := by
  unfold State.boundary
  split
  · exact s.darkBoundary_ended sn b
  · split
    · exact s.drainedBoundary_ended ‹_›
    · exact s.laserBoundary_ended sn b

/-! ### The hold (R157 to R162) -/

/-- A client that joins puts the engine on its way to HELD with no laser triggered anew (R158). -/
theorem State.joinHold_guarded (s : State) (c : Client) : Guarded s (s.joinHold c) := by
  have hqueue := (s.joinHold_testMoves c).moves.queueInv
  have hmember := s.withMember_member c
  cases hc : s.hold.members.at c with
  | true => exact .of_eq (State.joinHold_of_member hc)
  | false =>
    have hlater : s.joinHold c = s.withMember c → Guarded s (s.joinHold c) := fun h => by
      rw [h] at hqueue ⊢
      exact ⟨hqueue, id, fun _ => id, fun _ _ => ⟨c, hmember⟩⟩
    have hblock : s.eng.state = .dark ∨ s.eng.state = .acquire → (∀ d, s.hold.members.at d = false) →
        Guarded s (s.joinHold c) := fun hs hm => by
      rw [State.joinHold_of_block hc hm hs] at hqueue ⊢
      refine ⟨hqueue, fun _ => laserInv_of_dark rfl, fun _ hl => ?_, fun _ _ => ⟨c, hmember⟩⟩
      have hshoot : s.eng.state.shooting = true := by rcases hs with hs | hs <;> rw [hs] <;> rfl
      exact (lightInv_iff _).2 ⟨nofun, fun _ => ((lightInv_iff s).1 hl).2 hshoot⟩
    by_cases hm : ∃ d, s.hold.members.at d = true
    · exact hlater (State.joinHold_of_others hc hm)
    · have hm : ∀ d, s.hold.members.at d = false := by simpa using hm
      cases hs : s.eng.state with
      | idle =>
        rw [State.joinHold_of_idle hc hm hs] at hqueue ⊢
        exact .of_resting hqueue (State.enterHeld_resting ⟨c, hmember⟩)
      | dark => exact hblock (.inl hs) hm
      | acquire => exact hblock (.inr hs) hm
      | position => exact hlater (State.joinHold_of_later hc hm (.inl hs))
      | analyse => exact hlater (State.joinHold_of_later hc hm (.inr (.inl hs)))
      | draining => exact hlater (State.joinHold_of_later hc hm (.inr (.inr (.inl hs))))
      | held => exact hlater (State.joinHold_of_later hc hm (.inr (.inr (.inr hs))))

/-- The end of a hold leaves the engine neither HELD nor DRAINING, but for a test that is parked anew (R160, R161). -/
theorem State.releaseHold_holdInv (s : State) : HoldInv s.releaseHold := by
  by_cases hd : s.eng.state = .draining
  · cases hk : s.eng.kind with
    | dark => exact State.releaseHold_of_darkBlock hd hk ▸ nofun
    | laser => exact State.releaseHold_of_laserBlock hd hk ▸ nofun
  · by_cases hh : s.eng.state = .held
    · cases hr : s.queue.running with
      | none => exact State.releaseHold_of_noTest hh hr ▸ nofun
      | some e => exact State.releaseHold_of_held hh hr ▸ State.selEvent_holdInv _ nofun
    · rw [State.releaseHold_of_other hd hh]
      exact fun hs => absurd hs (not_or.2 ⟨hh, hd⟩)

/-- The end of a hold returns a draining engine to its block, and a HELD one to IDLE or on the way to its test's port
(R160, R161). -/
theorem State.releaseHold_guarded (s : State) : Guarded s s.releaseHold := by
  have hqueue := s.releaseHold_testMoves.moves.queueInv
  have hhold := s.releaseHold_holdInv
  have hdark : s.eng.state ≠ .acquire → LaserInv s → s.eng.trigger = none := fun hs hl =>
    Option.eq_none_iff_forall_ne_some.2 fun b hb => hs (hl b hb).1
  by_cases hd : s.eng.state = .draining
  · have hshoot : s.eng.state.shooting = true := by rw [hd]; rfl
    cases hk : s.eng.kind with
    | dark =>
      rw [State.releaseHold_of_darkBlock hd hk] at hqueue hhold ⊢
      refine ⟨hqueue, fun hl => laserInv_of_dark (hdark (by simp [hd]) hl), fun _ hl => ?_, fun _ => hhold⟩
      exact (lightInv_iff _).2 ⟨nofun, fun _ => ((lightInv_iff s).1 hl).2 hshoot⟩
    | laser =>
      rw [State.releaseHold_of_laserBlock hd hk] at hqueue ⊢
      exact .of_begun hqueue hshoot ⟨.inr rfl, laserInv_of_startShot rfl⟩ rfl rfl
  · by_cases hh : s.eng.state = .held
    · have hnotAcquire : s.eng.state ≠ .acquire := by simp [hh]
      cases hr : s.queue.running with
      | none =>
        rw [State.releaseHold_of_noTest hh hr] at hqueue hhold ⊢
        exact ⟨hqueue, fun hl => laserInv_of_dark (hdark hnotAcquire hl), fun _ _ => lightInv_of_rest (.inl rfl),
          fun _ => hhold⟩
      | some e =>
        rw [State.releaseHold_of_held hh hr] at hqueue hhold ⊢
        refine ⟨hqueue, fun hl => State.selEvent_laserInv_of_dark _ (hdark hnotAcquire hl), fun _ _ => ?_,
          fun _ => hhold⟩
        refine State.selEvent_lightInv_of_awaited rfl (Selector.request_awaited _ _) fun q hq => ?_
        obtain ⟨x, hx, rfl⟩ := (State.testPort_eq_some _ q).1 hq
        rw [Option.some.inj (hx.symm.trans hr)]
    · exact .of_eq (State.releaseHold_of_other hd hh)

/-- A client that leaves ends the hold when it is the last one, and leaves another in the set otherwise (R160, R164). -/
theorem State.leaveHold_guarded (s : State) (c : Client) : Guarded s (s.leaveHold c) := by
  have hqueue := (s.leaveHold_testMoves c).moves.queueInv
  by_cases h : s.hold.lastIs c
  · rw [State.leaveHold_of_last h] at hqueue ⊢
    have hrelease := (s.without c).releaseHold_guarded
    exact ⟨hqueue, hrelease.laser, hrelease.light, fun _ => (s.without c).releaseHold_holdInv⟩
  · rw [State.leaveHold_of_not_last h] at hqueue ⊢
    refine ⟨hqueue, id, fun _ => id, fun hh hs => ?_⟩
    obtain ⟨d, hd⟩ := hh hs
    by_contra hnone
    have hempty : (s.without c).hold.isEmpty = true := by simpa [HoldUnit.isEmpty_iff] using hnone
    have hothers := (s.without_isEmpty c).1 hempty
    refine h ⟨?_, hothers⟩
    by_cases hdc : d = c
    · exact hdc ▸ hd
    · exact absurd ((hothers d hdc).symm.trans hd) (by decide)

theorem State.drainAfterReset_guarded (s t : State) (c : Client) : Guarded t (s.drainAfterReset t c) := by
  unfold State.drainAfterReset
  split
  · exact .quiet t.drain_moves.queueInv (by simp) (by simp) (by simp) (by simp)
  · exact .refl t

end Sys2Proof.Machine
end

section
/-! SUPPORT. Every request and every event of a block, and so every step, keeps the three invariants of the light. -/

namespace Sys2Proof.Machine

/-! ### The requests -/

theorem State.markRestart_guarded (s : State) : Guarded s s.markRestart :=
  .quiet s.markRestart_testMoves.moves.queueInv (by simp) (by simp) (by simp) (by simp)

/-- HOME takes a SETTLED selector from its port only while the engine is IDLE or HELD, and a selector on its way to a
port not at all (R73). -/
theorem doHome_guarded (s : State) : Guarded s (doHome s).2 := by
  unfold doHome
  split
  · rename_i hok
    have hhoming : Guarded s (s.setSel (s.sel.beginHoming none)) := by
      refine ⟨id, fun hl b hb => ?_, fun _ hl => ?_, id⟩
      · obtain ⟨hs, -, -, hsel⟩ := hl b hb
        simp [State.homeAllowed, hs, hsel] at hok
      · obtain ⟨hposition, hshooting⟩ := (lightInv_iff s).1 hl
        refine (lightInv_iff _).2 ⟨fun hs p hp => ?_, fun hs => ?_⟩
        · rcases hposition hs p hp with ⟨hsel | hsel, -⟩ | ⟨hsel, -⟩ <;> simp [State.homeAllowed, hsel] at hok
        · have hsel := (hshooting hs).1
          change s.eng.state.shooting = true at hs
          simp only [State.homeAllowed, hsel, Bool.or_eq_true, decide_eq_true_eq] at hok
          rcases hok with hi | hh
          · simp [hi, EngState.shooting] at hs
          · simp [hh, EngState.shooting] at hs
    exact (hhoming.trans (State.markRestart_guarded _)).arbitrated
  · exact .refl s

/-- A request that leaves the queue, the engine, the selector and the hold unit as they were. -/
structure Aside (s t : State) : Prop where
  queue : t.queue = s.queue
  eng : t.eng = s.eng
  sel : t.sel = s.sel
  hold : t.hold = s.hold

theorem Aside.guarded {s t : State} (h : Aside s t) : Guarded s t := by
  refine .quiet ?_ h.eng h.sel (congrArg HoldUnit.members h.hold) (congrArg TestQueue.running h.queue)
  rw [queueInv_iff, queueInv_iff, h.queue, h.eng]
  exact id

theorem Aside.refl (s : State) : Aside s s := ⟨rfl, rfl, rfl, rfl⟩

theorem doClaim_aside (c : Client) (port : Payload) (s : State) : Aside s (doClaim c port s).2 := by
  unfold doClaim
  (repeat' split) <;> exact ⟨rfl, rfl, rfl, rfl⟩

theorem doSetProfile_aside (c : Client) (port : Payload) (f : ProfileWords) (s : State) :
    Aside s (doSetProfile c port f s).2 := by
  unfold doSetProfile
  split <;> exact ⟨rfl, rfl, rfl, rfl⟩

theorem doGetProfile_aside (c : Client) (port : Payload) (s : State) : Aside s (doGetProfile c port s).2 := by
  unfold doGetProfile
  split <;> exact .refl s

theorem doGetResult_aside (c : Client) (port : Payload) (s : State) : Aside s (doGetResult c port s).2 := by
  unfold doGetResult
  split <;> exact ⟨rfl, rfl, rfl, rfl⟩

theorem doGetTrace_aside (c : Client) (source port band first count : Payload) (s : State) :
    Aside s (doGetTrace c source port band first count s).2 := by
  unfold doGetTrace
  (repeat' split) <;> exact .refl s

theorem doGetFindings_aside (c : Client) (port first : Payload) (s : State) :
    Aside s (doGetFindings c port first s).2 := by
  unfold doGetFindings
  (repeat' split) <;> exact ⟨rfl, rfl, rfl, rfl⟩

theorem doAckFinding_aside (c : Client) (port entry : Payload) (s : State) :
    Aside s (doAckFinding c port entry s).2 := by
  unfold doAckFinding
  (repeat' split) <;> exact ⟨rfl, rfl, rfl, rfl⟩

theorem doDeleteFinding_aside (c : Client) (port entry : Payload) (s : State) :
    Aside s (doDeleteFinding c port entry s).2 := by
  unfold doDeleteFinding
  (repeat' split) <;> exact ⟨rfl, rfl, rfl, rfl⟩

theorem doBaselineInfo_aside (c : Client) (port : Payload) (s : State) : Aside s (doBaselineInfo c port s).2 := by
  unfold doBaselineInfo
  split <;> exact .refl s

/-- The store alone changes. -/
theorem Guarded.setStore (s : State) (x : Store) : Guarded s (s.setStore x) := Aside.guarded ⟨rfl, rfl, rfl, rfl⟩

/-- The office alone changes. -/
theorem Guarded.setOffice (s : State) (x : Office) : Guarded s (s.setOffice x) := Aside.guarded ⟨rfl, rfl, rfl, rfl⟩

theorem State.eraseSlot_guarded (s : State) (slot : Fin 64) : Guarded s (s.eraseSlot slot).2 := by
  unfold State.eraseSlot
  split
  · exact .refl s
  · split
    · exact .refl s
    · exact (Guarded.setStore s _).arbitrated

theorem doEraseBaseline_guarded (c : Client) (port band : Payload) (s : State) :
    Guarded s (doEraseBaseline c port band s).2 := by
  unfold doEraseBaseline
  split
  · exact .refl s
  · split
    · exact .refl s
    · exact s.eraseSlot_guarded _

theorem doSetClock_guarded (seconds : Payload) (s : State) : Guarded s (doSetClock seconds s).2 := by
  unfold doSetClock
  split
  · exact .refl s
  · exact (Guarded.setOffice s _).arbitrated

theorem doSetWindow_guarded (c : Client) (start stop : Payload) (s : State) :
    Guarded s (doSetWindow c start stop s).2 := by
  unfold doSetWindow
  split
  · exact .refl s
  · exact (Guarded.setOffice s _).arbitrated

/-! ### The requests of the test queue -/

/-- The queue changes with its RUNNING entry kept, and the ports with it. -/
theorem Guarded.ofQueue {s t : State} (form : s.queue.Form → t.queue.Form)
    (running : t.queue.running = s.queue.running) (eng : t.eng = s.eng) (sel : t.sel = s.sel)
    (hold : t.hold = s.hold) : Guarded s t := by
  refine .quiet ?_ eng sel (congrArg HoldUnit.members hold) running
  rw [queueInv_iff, queueInv_iff, running, eng]
  exact And.imp_left form

/-- QUEUED entries that leave leave the RUNNING one as it was. -/
theorem TestQueue.drop_queued_running (q : TestQueue) {leaves : Entry → Bool}
    (h : ∀ e, leaves e = true → e.run = none) : (q.drop leaves).running = q.running := by
  unfold TestQueue.drop TestQueue.running
  rw [List.find?_filter]
  congr 1
  funext e
  cases hl : leaves e with
  | true => simp [h e hl]
  | false => simp

theorem TestQueue.clearLatchFor_running (q : TestQueue) (p : PortNo) (k : Kind) :
    (q.clearLatchFor p k).running = q.running := by
  unfold TestQueue.clearLatchFor
  split <;> rfl

theorem TestQueue.Form.clearLatchFor {q : TestQueue} (h : q.Form) (p : PortNo) (k : Kind) :
    (q.clearLatchFor p k).Form := by
  unfold TestQueue.clearLatchFor
  split <;> exact h

theorem State.upgradeClear_guarded (s : State) (p : PortNo) :
    Guarded s (s.setQueue ((s.queue.upgrade p).setLatch p false)) :=
  .ofQueue (fun h => h.upgrade p) (s.queue.upgrade_running p) rfl rfl rfl

theorem State.scheduleNew_guarded (s : State) (c : Client) (p : PortNo) (k : Kind) :
    Guarded s (s.scheduleNew c p k).2 := by
  unfold State.scheduleNew
  split
  · exact .refl s
  · rename_i hfull
    split
    · exact .refl s
    · refine Guarded.arbitrated (.ofQueue (fun h => (h.addEntry c p k .request ?_).clearLatchFor p k) ?_ rfl rfl rfl)
      · exact (TestQueue.isFull_eq_false _).1 (by simpa using hfull)
      · rw [State.setQueue_queue, TestQueue.clearLatchFor_running, TestQueue.addEntry_running]

theorem State.scheduleKind_guarded (s : State) (c : Client) (p : PortNo) (k : Kind) :
    Guarded s (s.scheduleKind c p k).2 := by
  unfold State.scheduleKind
  split
  · exact .refl s
  · cases k with
    | routine =>
      dsimp only
      split
      · exact .refl s
      · exact s.scheduleNew_guarded ..
    | urgent =>
      dsimp only
      split
      · exact (s.upgradeClear_guarded p).arbitrated
      · exact s.scheduleNew_guarded ..
    | baseline _ => exact s.scheduleNew_guarded ..
    | confirm => exact s.scheduleNew_guarded ..

theorem doSchedule_guarded (c : Client) (port kind band : Payload) (s : State) :
    Guarded s (doSchedule c port kind band s).2 := by
  unfold doSchedule
  split
  · exact .refl s
  · split
    · exact .refl s
    · exact s.scheduleKind_guarded ..

/-- Entries that wait leave with their results written, and the drain runs (R25, R40). -/
theorem State.cancelQueued_guarded (s : State) (e : Entry) (he : e ∈ s.queue.entries) :
    Guarded s (s.cancelQueued e) := by
  refine .quiet (s.cancelQueued_work e he).moves.queueInv (by simp [State.cancelQueued]) (by simp [State.cancelQueued])
    (by simp [State.cancelQueued]) ?_
  unfold State.cancelQueued State.depart
  split
  · rw [State.drain_running]
    exact TestQueue.drop_queued_running _ fun x hx => by simpa using (Bool.and_eq_true_iff.1 hx).1
  · rfl

theorem State.cancelRunning_guarded (s : State) (ri : RunInfo) : Guarded s (s.cancelRunning ri).2 := by
  have hpending : Guarded s s.setCancelPending :=
    .of_still (Move.setRun _).moves.queueInv id rfl rfl rfl fun _ => .inr (State.testPort_setRun rfl)
  unfold State.cancelRunning
  split
  · exact .refl s
  · split
    case h_1 => exact .refl s
    case h_2 =>
      exact (Guarded.of_resting (s.clearMark_testMoves.trans (State.cancelTest_testMoves _)).moves.queueInv
        (State.cancelTest_resting _)).arbitrated
    all_goals exact hpending

theorem doCancel_guarded (c : Client) (ticket : Payload) (s : State) : Guarded s (doCancel c ticket s).2 := by
  unfold doCancel
  split
  · exact .refl s
  · rename_i e he
    split
    · split
      · exact (s.cancelQueued_guarded e (List.mem_of_find?_eq_some he)).arbitrated
      · exact s.cancelRunning_guarded _
    · exact .refl s

/-! ### RELEASE and LINK RESET -/

/-- A release ends a parked test of the port; otherwise it leaves the selector, the hold unit and the block in
progress as they were (R5, R6). -/
theorem State.releasePort_cases (s : State) (p : PortNo) :
    (s.releasePort p).Resting ∨ ((s.releasePort p).sel = s.sel ∧ (s.releasePort p).hold = s.hold ∧
      ∃ hand pair, (s.releasePort p).eng = { s.eng with hand := hand, lastPair := pair }) := by
  have hsel : (s.releasePort p).sel = (s.detachIf p).sel := by
    rw [State.releasePort_eq_setQueue]
    rfl
  have heng := s.releasePort_eng p
  rw [Engine.forgetPair_eq] at heng
  have hhold := s.releasePort_hold p
  by_cases hr : s.runsPort p = true
  · have hif : s.detachIf p = s.detach := if_pos hr
    by_cases hh : s.eng.state = .held
    · have hrest : s.detach.Resting := by
        unfold State.detach
        rw [if_pos hh]
        exact State.leaveTest_resting rfl
      rw [← hif] at hrest
      refine .inl ?_
      rw [State.Resting, heng, hhold]
      exact hrest
    · rw [hif, State.detach_of_not_held hh] at hsel heng hhold
      exact .inr ⟨hsel, hhold, _, _, heng⟩
  · have hif : s.detachIf p = s := if_neg hr
    rw [hif] at hsel heng hhold
    exact .inr ⟨hsel, hhold, _, _, heng⟩

/-- The test in hand after a release: the same, or none when it was the port's (R6). -/
theorem State.releasePort_testPort {s : State} (hs : QueueInv s) (p : PortNo) :
    (s.releasePort p).testPort = none ∨ (s.releasePort p).testPort = s.testPort := by
  have hform := ((queueInv_iff s).1 hs).1
  rw [State.testPort, State.releasePort_running]
  cases hr : s.queue.running with
  | none => exact .inl (by rw [TestQueue.drop_running_none _ hr]; rfl)
  | some e =>
    by_cases hp : e.port = p
    · exact .inl (by rw [hform.drop_running_leaves hr (decide_eq_true hp)]; rfl)
    · exact .inr (by rw [hform.drop_running_stays hr (decide_eq_false hp), State.testPort, hr])

theorem doRelease_guarded (c : Client) (port : Payload) (s : State) : Guarded s (doRelease c port s).2 := by
  unfold doRelease
  split
  · exact .refl s
  · rename_i p _
    refine Guarded.arbitrated ?_
    have hqueue := (s.releasePort_work p).moves.queueInv
    rcases s.releasePort_cases p with hrest | ⟨hsel, hhold, hand, pair, heng⟩
    · exact .of_resting hqueue hrest
    · refine .of_still hqueue ?_ (by rw [heng]) hsel (by rw [hhold]) fun hq => State.releasePort_testPort hq p
      rw [LaserInv, LaserInv, heng, hsel]
      exact id

theorem doLinkReset_guarded (c : Client) (s : State) : Guarded s (doLinkReset c s).2 := by
  have hlink : Guarded s (s.setLink c (s.link c).clearFlags) := .setHw ..
  have hcancel : ∀ t : State, Guarded t (t.cancelAll c) := fun t =>
    .quiet (t.cancelAll_moves c).queueInv (by rw [State.cancelAll_eq]; rfl) (by rw [State.cancelAll_eq]; rfl)
      (by rw [State.cancelAll_eq]; rfl) (t.cancelAll_running_eq c)
  exact (((hlink.trans (hcancel _)).trans (State.leaveHold_guarded _ c)).trans
    (State.drainAfterReset_guarded ..)).arbitrated

/-- Every request's effect keeps the light safe. -/
theorem handle_guarded (c : Client) (r : Request) (s : State) : Guarded s (handle c r s).2 := by
  cases r
  case claim => exact (doClaim_aside ..).guarded
  case release => exact doRelease_guarded ..
  case setProfile => exact (doSetProfile_aside ..).guarded
  case getProfile => exact (doGetProfile_aside ..).guarded
  case getResult => exact (doGetResult_aside ..).guarded
  case schedule => exact doSchedule_guarded ..
  case cancel => exact doCancel_guarded ..
  case listQueue => exact .refl s
  case setWindow => exact doSetWindow_guarded ..
  case setClock => exact doSetClock_guarded ..
  case home => exact doHome_guarded s
  case getTrace => exact (doGetTrace_aside ..).guarded
  case getFindings => exact (doGetFindings_aside ..).guarded
  case ackFinding => exact (doAckFinding_aside ..).guarded
  case deleteFinding => exact (doDeleteFinding_aside ..).guarded
  case baselineInfo => exact (doBaselineInfo_aside ..).guarded
  case eraseBaseline => exact doEraseBaseline_guarded ..
  case hold => exact s.joinHold_guarded c
  case resume =>
    change Guarded s (s.resumeFrom c)
    unfold State.resumeFrom
    split
    · exact (s.leaveHold_guarded c).arbitrated
    · exact .refl s
  case status => exact .setHw ..
  case linkReset => exact doLinkReset_guarded c s

/-! ### The events of the blocks -/

theorem State.tick_guarded (s : State) : Guarded s s.tick := by
  unfold State.tick
  split
  · exact .refl s
  · dsimp only
    split
    · exact (Guarded.setOffice s _).arbitrated
    · exact .setOffice s _

/-- A QUEUED ROUTINE leaves for the URGENT of an edge (R38). -/
theorem State.evictFor_guarded (s : State) (p : PortNo) (c : Client) {e : Entry} (he : s.queue.newestRoutine = some e) :
    Guarded s ((s.evict e).admitLos p c) := by
  obtain ⟨hmem, hrun, -⟩ := TestQueue.newestRoutine_spec he
  refine .ofQueue (fun h => ?_) ?_ rfl rfl rfl
  · refine (h.drop _).addEntry c p .urgent .los ((s.queue.length_drop_lt _ ?_).trans_le h.1)
    exact ⟨e, hmem, by simp [hrun]⟩
  · rw [State.admitLos, State.setQueue_queue, TestQueue.setLatch_running, TestQueue.addEntry_running]
    exact TestQueue.drop_queued_running _ fun x hx => by simpa using (Bool.and_eq_true_iff.1 hx).1

theorem State.takeLos_guarded (s : State) (p : PortNo) (c : Client) : Guarded s (s.takeLos p c) := by
  have hlatch : Guarded s (s.setQueue (s.queue.setLatch p true)) := .ofQueue id rfl rfl rfl rfl
  unfold State.takeLos
  split
  · exact .refl s
  split
  · exact (s.upgradeClear_guarded p).arbitrated
  split
  · exact hlatch
  split
  · split
    · exact (s.evictFor_guarded p c ‹_›).arbitrated
    · exact hlatch
  · rename_i hfull
    have hadmit : Guarded s (s.admitLos p c) := .ofQueue
      (fun h => h.addEntry c p .urgent .los ((TestQueue.isFull_eq_false _).1 (by simpa using hfull)))
      (TestQueue.addEntry_running ..) rfl rfl rfl
    exact hadmit.arbitrated

theorem State.losEdge_guarded (s : State) (p : PortNo) : Guarded s (s.losEdge p) := by
  unfold State.losEdge
  split
  · exact .refl s
  · split
    · exact s.takeLos_guarded p _
    · exact .refl s

theorem State.selEvent_guarded {s : State} {y : Selector × SelReport} (hy : s.sel.Reacts s.isHeld y) :
    Guarded s (s.selEvent y) :=
  ⟨(s.selEvent_testMoves y).moves.queueInv, State.selEvent_laserInv hy, fun _ => State.selEvent_lightInv hy,
    State.selEvent_holdInv y⟩

/-- A shot's end starts the next shot of its block, or ends the block (R80). -/
theorem State.endShot_guarded (s : State) (x : Samples) : Guarded s (s.endShot x) := by
  unfold State.endShot
  split
  · rename_i sn b _ _
    split
    · rename_i hs
      dsimp only
      have hadded : (s.setEng { s.eng.addShot (shotSamples x sn.points) with counter := 0 }).eng.state = s.eng.state :=
        s.eng.addShot_state _
      split
      · refine Guarded.arbitrated (Guarded.of_blockEnded ?_ hs.1 ?_)
        · have hadd : TestMoves s (s.setEng { s.eng.addShot (shotSamples x sn.points) with counter := 0 }) :=
            .eng _ _ fun hi => hadded ▸ hi
          exact (hadd.trans (State.boundary_testMoves ..)).moves.queueInv
        · cases State.boundary_ended (s.setEng { s.eng.addShot (shotSamples x sn.points) with counter := 0 }) sn b with
          | rests resting => exact .rests resting
          | begins begun sel port => exact .begins begun sel port
          | parks u z eq drained members => exact .parks u z eq (hadded ▸ drained) members
      · refine .of_still ?_ (fun _ => laserInv_of_startShot rfl) hadded rfl rfl fun _ => .inr rfl
        exact (TestMoves.eng s _ fun hi => hadded ▸ hi).moves.queueInv
    · exact .refl s
  · exact .refl s

theorem State.completeTest_resting (s : State) (sn : Snapshot) (e : Entry) : (s.completeTest sn e).Resting := by
  unfold State.completeTest
  dsimp only
  split <;> exact State.endTest_resting ..

theorem State.analysisExpires_guarded (s : State) : Guarded s s.analysisExpires := by
  unfold State.analysisExpires
  split
  · split
    · rename_i he _
      exact (Guarded.of_resting (s.completeTest_work _ _ (TestQueue.running_eq_some he).1).moves.queueInv
        (s.completeTest_resting ..)).arbitrated
    · exact (Guarded.of_resting s.cancelTest_testMoves.moves.queueInv s.cancelTest_resting).arbitrated
  · exact .refl s

theorem State.programmed_guarded (s : State) (r : ReadBack) : Guarded s (s.programmed r) := by
  have hraise : ∀ (t : State) slot, Guarded t (t.raiseStore slot) := fun t slot => by
    unfold State.raiseStore
    split
    · exact .setHw ..
    · exact .refl t
  unfold State.programmed
  dsimp only
  split
  · exact .refl s
  · rename_i e _
    have hstore := Guarded.setStore s (s.store.endProgramming (s.store.verifies e.op r))
    refine Guarded.arbitrated ?_
    split
    · exact hstore
    · exact hstore.trans (hraise ..)

theorem State.holdExpired_guarded (s : State) : Guarded s s.holdExpired := by
  unfold State.holdExpired
  split
  · have htimer : Guarded s (s.setHold { s.hold with timer := none }) := .quiet id rfl rfl rfl rfl
    exact htimer.trans (State.markRestart_guarded _)
  · exact .refl s

/-- Whatever a command does keeps the light safe. -/
theorem Occurs.guarded {s t : State} (h : Occurs s t) : Guarded s t := by
  cases h with
  | highway x => exact .setHw s x
  | request c r x y => exact ((Guarded.setHw s x).trans (handle_guarded c r _)).trans (.setHw _ y)
  | powerOn => exact .of_resting (fun _ => queueInv_of_empty rfl) ⟨rfl, .inl rfl⟩
  | tick => exact s.tick_guarded
  | losEdge p => exact s.losEdge_guarded p
  | selector x reacts => exact (State.selEvent_guarded reacts).arbitrated
  | shot x => exact s.endShot_guarded x
  | analysis => exact s.analysisExpires_guarded
  | programmed r => exact s.programmed_guarded r
  | holdExpired => exact s.holdExpired_guarded

theorem step_guarded {s t : State} (h : step s = .next t) : Guarded s t := by
  rcases step_occurs h with rfl | ⟨rest, h⟩
  · exact .refl t
  · have hrest : Guarded s (s.setPending rest) := Aside.guarded ⟨rfl, rfl, rfl, rfl⟩
    exact hrest.trans h.guarded

end Sys2Proof.Machine

open Sys2Proof
open Sys2Proof.Machine

/-- Settles O57: whatever a command does leaves the engine at rest, has a block begin under the permit, or keeps the
engine's state and the selector at its work for the test in hand. -/
theorem everyStepKeepsTheLightSafe : Obligations.EveryStepKeepsTheLightSafe := fun _ _ h =>
  ⟨(step_guarded h).laser, (step_guarded h).light, (step_guarded h).hold⟩
end

section
/-! SUPPORT. Power-on (R74, R144): which headers make a slot VALID. -/

namespace Sys2Proof.Machine

theorem slotBand_eq_iff (b : Band) (i : Fin 64) : b = slotBand i ↔ (b = .A ↔ i.val % 2 = 0) := by
  unfold slotBand
  split <;> cases b <;> simp [*]

/-- A header is complete for a slot: the slot's own port and band, and every field in its range (R144). -/
theorem completeFor_iff (i : Fin 64) (x : Capture) :
    completeFor i x = true ↔ x.port.val = i.val / 2 ∧ (x.band = .A ↔ i.val % 2 = 0) ∧
      (x.points = 1024 ∨ x.points = 2048 ∨ x.points = 4096 ∨ x.points = 8192 ∨ x.points = 16384) ∧ x.period ≤ 5 ∧
      x.pulse ≤ 6 ∧ 8 ≤ x.averages ∧ x.averages ≤ 16 ∧ 140000 ≤ x.groupIndex ∧ x.groupIndex ≤ 160000 ∧
      x.endIndex ≤ x.points ∧ x.dark ≤ 4095 := by
  have hport : x.port = slotPort i ↔ x.port.val = i.val / 2 := Fin.ext_iff
  simp only [completeFor, Bool.and_eq_true, decide_eq_true_eq, List.contains_iff_mem, List.mem_cons, List.not_mem_nil,
    or_false, hport, slotBand_eq_iff, and_assoc]

theorem powerOnSlot_eq_some (i : Fin 64) (o : Option Capture) (x : Capture) :
    powerOnSlot i o = some x ↔ o = some x ∧ completeFor i x = true := by
  simp only [powerOnSlot, Option.bind_eq_some_iff, Option.ite_none_right_eq_some, Option.some.injEq]
  constructor
  · rintro ⟨y, hy, hc, rfl⟩
    exact ⟨hy, hc⟩
  · rintro ⟨hx, hc⟩
    exact ⟨x, hx, hc, rfl⟩

theorem State.powerOn_slots (s : State) (i : Fin 64) :
    s.powerOn.store.slots.at i = powerOnSlot i (s.store.slots.at i) := Tab.at_of _ i

end Sys2Proof.Machine

open Sys2Proof
open Sys2Proof.Machine

/-- Settles O4: a slot is taken over exactly when its header is complete for it, and every other part is that of reset. -/
theorem powerOnReinitialisesEveryBlock : Obligations.PowerOnReinitialisesEveryBlock := by
  refine fun s => ⟨s.powerOn, rfl, fun i x => ?_, rfl⟩
  rw [s.powerOn_slots, powerOnSlot_eq_some, completeFor_iff]
end

section
/-! SUPPORT. The selector's events as commands (R55 to R71): the motor, the count and the direction of an edge, and a
move begun again away from its target position. -/

namespace Sys2Proof.Machine

/-! ### The motor (R55, R61, R66) -/

theorem Selector.motor_homing {x : Selector} (h : x.state = .homing) :
    x.motor = { run := true, dir := .forward, creep := true } := by
  simp only [Selector.motor, h]

theorem Selector.motor_moving {x : Selector} {p : PortNo} (h : x.state = .moving) (ht : x.target = some p) :
    x.motor = { run := true, dir := x.driveDir p, creep := decide (countDistance x.count (targetCount p) ≤ 16) } := by
  simp only [Selector.motor, h, ht]
  rfl

theorem Selector.motor_stopped {x : Selector}
    (h : x.state = .lost ∨ x.state = .settling ∨ x.state = .settled ∨ x.state = .fault) : x.motor.run = false := by
  rcases h with h | h | h | h <;> simp only [Selector.motor, h]

/-- The direction in which the motor drives, in numbers (R61). -/
theorem Selector.driveDir_forward (x : Selector) (p : PortNo) :
    x.driveDir p = .forward ↔ (64 * p.val + 2048 - x.count.val) % 2048 ≤ 1024 := by
  have hsub : (targetCount p - x.count).val = (64 * p.val + 2048 - x.count.val) % 2048 := by
    simp only [targetCount, Fin.sub_def]
    have := x.count.isLt
    omega
  simp [Selector.driveDir, hsub]

/-! ### The edges (R56) -/

theorem edgeDir_forward {e : EncoderEdge}
    (h : e ∈ ([⟨.A, true, false⟩, ⟨.A, false, true⟩, ⟨.B, true, true⟩, ⟨.B, false, false⟩] : List EncoderEdge)) :
    edgeDir e = .forward := by
  simp only [List.mem_cons, List.not_mem_nil, or_false] at h
  rcases h with rfl | rfl | rfl | rfl <;> rfl

theorem edgeDir_backward {e : EncoderEdge}
    (h : e ∈ ([⟨.A, true, true⟩, ⟨.A, false, false⟩, ⟨.B, true, false⟩, ⟨.B, false, true⟩] : List EncoderEdge)) :
    edgeDir e = .backward := by
  simp only [List.mem_cons, List.not_mem_nil, or_false] at h
  rcases h with rfl | rfl | rfl | rfl <;> rfl

theorem countStep_forward (a : Fin 2048) : (countStep a .forward).val = (a.val + 1) % 2048 := by
  simp [countStep, Fin.val_add]

theorem countStep_backward (a : Fin 2048) : (countStep a .backward).val = (a.val + 2047) % 2048 := by
  simp only [countStep, Fin.sub_def]
  have := a.isLt
  omega

/-! ### A count in numbers -/

section
variable {x : Selector} {p : PortNo} (ht : x.target = some p)
include ht

theorem Selector.offTarget_eq_false_of_target (h : countDistance x.count (targetCount p) ≤ 1) : x.offTarget = false :=
  Bool.eq_false_iff.2 fun ho => absurd ((Selector.offTarget_of_target ht).1 ho) (Nat.not_lt.2 h)

/-- A move that begins away from its target position drives there (R60). -/
theorem Selector.beginMove_of_away (h : 1 < countDistance x.count (targetCount p)) :
    x.beginMove p = { x with
      state := .moving, changes := 0, moveTimer := some 2000000000, settleTimer := none, fresh := true } := by
  have hne : x.count ≠ targetCount p := fun he => by
    rw [(countDistance_target_eq_zero _ _).2 he] at h
    cases h
  simp only [Selector.beginMove, if_neg hne, ← ht, Config.moveTime]

end

end Sys2Proof.Machine

open Sys2Proof
open Sys2Proof.Machine

/-- Settles O37: `Selector.takeCount` by the state, with the distance of the count taken in numbers. -/
theorem encoderCountMovesTheRotor : Obligations.EncoderCountMovesTheRotor := by
  refine ⟨fun x => ⟨Selector.motor_homing, fun p h ht => ?_, Selector.motor_stopped⟩, fun s e => ?_⟩
  · rw [Selector.motor_moving h ht, ← countDistance_target]
    exact ⟨rfl, x.driveDir_forward p, decide_eq_true_iff⟩
  · have hcount : (s.selEvent (s.sel.takeCount (edgeDir e) s.isHeld)).arbitrate.sel.count =
        countStep s.sel.count (edgeDir e) := by
      simp [State.selEvent, Selector.takeCount_count]
    have hdir : (s.selEvent (s.sel.takeCount (edgeDir e) s.isHeld)).arbitrate.sel.dir = edgeDir e := by
      simp [State.selEvent, Selector.takeCount_dir]
    refine ⟨_, rfl, fun he => ?_, fun he => ?_, ?_⟩
    · rw [hcount, hdir, edgeDir_forward he]
      exact ⟨countStep_forward _, rfl⟩
    · rw [hcount, hdir, edgeDir_backward he]
      exact ⟨countStep_backward _, rfl⟩
    · rw [hcount, hdir]
      rintro x hx
      obtain rfl : x = s.sel.counted (edgeDir e) := hx
      refine ⟨fun hs => by rw [Selector.takeCount_idle hs]; rfl, fun p d n ht hd hn => ?_⟩
      rw [← countDistance_target] at hd
      replace hn : n = s.sel.changesAfter (edgeDir e) := hn.trans (s.sel.changesAfter_eq _).symm
      subst hd hn
      have htx : (s.sel.counted (edgeDir e)).target = some p := ht
      have htm : ({ s.sel.counted (edgeDir e) with changes := s.sel.changesAfter (edgeDir e) } : Selector).target =
          some p := ht
      have hheld : s.isHeld = decide (s.eng.state = .held) := rfl
      refine ⟨fun hs hn hd => ?_, fun hs hn hd => ?_, fun hs hn => ?_, fun hs hd => ?_, fun hs hd => ?_, fun hs hd => ?_,
        fun hs hd hh => ?_, fun hs hd hh => ?_⟩
      · rw [Selector.takeCount_driven hs hn, Selector.matchCheck_away htm fun h =>
          hd ((countDistance_target_eq_zero _ _).2 h)]
        rfl
      · rw [Selector.takeCount_driven hs hn, Selector.matchCheck_there htm ((countDistance_target_eq_zero _ _).1 hd)]
        rfl
      · rw [Selector.takeCount_hunts hs hn]
        rfl
      · rw [Selector.takeCount_settling hs, Selector.settleCheck_near (Selector.offTarget_eq_false_of_target htx hd)]
        rfl
      · rw [Selector.takeCount_settling hs, Selector.settleCheck_off ((Selector.offTarget_of_target htx).2 hd)]
        rfl
      · rw [Selector.takeCount_settled hs,
          Selector.disturbanceCheck_near (Selector.offTarget_eq_false_of_target htx hd)]
        rfl
      · rw [Selector.takeCount_settled hs, hheld, decide_eq_true hh,
          Selector.disturbanceCheck_held ((Selector.offTarget_of_target htx).2 hd)]
        rfl
      · rw [Selector.takeCount_settled hs, hheld, decide_eq_false hh,
          Selector.disturbanceCheck_disturbed htx ((Selector.offTarget_of_target htx).2 hd),
          Selector.beginMove_of_away htx hd]
        rfl
end

section
/-! SUPPORT. A homing attempt that fails or completes, and a slip corrected (R58, R67, R68). -/

namespace Sys2Proof.Machine

/-- The second failure in a row leads to FAULT (R68). -/
theorem Selector.failHoming_eq (x : Selector) :
    x.failHoming = ({ x with
        state := if x.failures = 0 then .lost else .fault
        homingTimer := none, failures := min 2 (x.failures + 1), pendingTarget := none, target := none },
      if x.pendingTarget.isSome then .failure else .quiet) := by
  have hstate : (if min 2 (x.failures + 1) = 2 then SelState.fault else .lost) =
      if x.failures = 0 then .lost else .fault := by
    split <;> split <;> first | rfl | omega
  simp only [Selector.failHoming, hstate]

/-- Homing completes with the move to the pending target, or to port 0, begun at count 0 (R67). -/
theorem Selector.completeHoming_eq (x : Selector) {p : PortNo} (hp : p = x.pendingTarget.getD 0) :
    x.completeHoming = { x with
      count := 0, homingTimer := none, failures := 0, pendingTarget := none, target := some p, changes := 0,
      moveTimer := some 2000000000, settleTimer := if p = 0 then some 20000000 else none,
      state := if p = 0 then .settling else .moving, fresh := true } := by
  simp only [Selector.completeHoming, ← hp, Selector.beginMove, zero_eq_target_iff]
  rfl

section
variable {x : Selector} {p : PortNo} (ht : x.target = some p)
include ht

/-- Count 0 is off every target position but port 0's (R55, R58). -/
theorem Selector.slipped_offTarget : x.slipped.offTarget = true ↔ p ≠ 0 :=
  (Selector.offTarget_of_target (x := x.slipped) ht).trans (zero_offTarget_iff p)

theorem Selector.slipped_onTarget (hp : p = 0) : x.slipped.offTarget = false :=
  Bool.eq_false_iff.2 fun ho => (Selector.slipped_offTarget ht).1 ho hp

end

end Sys2Proof.Machine

open Sys2Proof
open Sys2Proof.Machine

/-- Settles O38: `Selector.takeError` and the three expiries by the state, and whether the timer runs. -/
theorem encoderErrorAndTimersActByState : Obligations.EncoderErrorAndTimersActByState := by
  intro s
  refine ⟨fun hs => ?_, fun y hy hs => ?_, fun y hy hs => ⟨?_, fun ht => ?_⟩, fun hs => ?_, fun hs ht => ?_, fun h => ?_,
    fun h => ?_, fun h => ?_⟩
  · change Host.Outcome.next (s.selEvent s.sel.takeError).arbitrate = _
    rw [Selector.takeError_idle hs]
    rfl
  · have hfail : s.sel.failHoming = (y, if s.sel.pendingTarget.isSome then .failure else .quiet) :=
      hy ▸ s.sel.failHoming_eq
    refine ⟨?_, fun ht => ?_⟩
    · change Host.Outcome.next (s.selEvent s.sel.takeError).arbitrate = _
      rw [Selector.takeError_homing hs, hfail]
      rfl
    · change Host.Outcome.next (s.selEvent s.sel.homingExpires).arbitrate = _
      rw [Selector.homingExpires, if_pos ⟨ht, hs⟩, hfail]
      rfl
  · change Host.Outcome.next (s.selEvent s.sel.takeError).arbitrate = _
    rw [Selector.takeError_underWay hs, hy]
    rfl
  · change Host.Outcome.next (s.selEvent s.sel.moveExpires).arbitrate = _
    rw [Selector.moveExpires, if_pos ⟨ht, hs⟩, hy]
    rfl
  · change Host.Outcome.next (s.selEvent s.sel.takeError).arbitrate = _
    rw [Selector.takeError_settled hs]
    rfl
  · change Host.Outcome.next (s.selEvent s.sel.settleExpires).arbitrate = _
    rw [Selector.settleExpires, if_pos ⟨ht, hs⟩]
    rfl
  · change Host.Outcome.next (s.selEvent s.sel.homingExpires).arbitrate = _
    rw [Selector.homingExpires, if_neg h]
    rfl
  · change Host.Outcome.next (s.selEvent s.sel.moveExpires).arbitrate = _
    rw [Selector.moveExpires, if_neg h]
    rfl
  · change Host.Outcome.next (s.selEvent s.sel.settleExpires).arbitrate = _
    rw [Selector.settleExpires, if_neg h]
    rfl

/-- Settles O39: `Selector.takeIndex` by the state and by the place of the count; a slip makes its check at count 0. -/
theorem indexEdgeActsByState : Obligations.IndexEdgeActsByState := by
  intro s
  have hexec : ∀ y, s.sel.takeIndex s.isHeld = y → exec .indexEdge s = .next (s.selEvent y).arbitrate := by
    rintro y rfl
    rfl
  refine ⟨fun hs p hp => ?_, fun hs => hexec _ (Selector.takeIndex_idle hs _), fun hs hc =>
    hexec _ (Selector.takeIndex_near hs (s.sel.nearIndex_iff.2 hc) _), fun hc p ht => ?_⟩
  · rw [hexec _ (Selector.takeIndex_homing hs _), Selector.completeHoming_eq _ hp]
    rfl
  · have hn : s.sel.nearIndex = false := Bool.eq_false_iff.2 fun h => hc (s.sel.nearIndex_iff.1 h)
    have hoff := Selector.slipped_offTarget ht
    have hon := Selector.slipped_onTarget ht
    have hts : s.sel.slipped.target = some p := ht
    have hzero := zero_eq_target_iff p
    refine ⟨fun hs hp => ?_, fun hs hp => ?_, fun hs hp => ?_, fun hs hp => ?_, fun hs hp => ?_, fun hs hp hh => ?_,
      fun hs hp hh => ?_⟩
    · rw [hexec _ (Selector.takeIndex_moving hn _ hs), Selector.matchCheck_there hts (hzero.2 hp)]
      rfl
    · rw [hexec _ (Selector.takeIndex_moving hn _ hs), Selector.matchCheck_away hts (mt hzero.1 hp)]
      rfl
    · rw [hexec _ (Selector.takeIndex_settling hn _ hs), Selector.settleCheck_near (hon hp)]
      rfl
    · rw [hexec _ (Selector.takeIndex_settling hn _ hs), Selector.settleCheck_off (hoff.2 hp)]
      rfl
    · rw [hexec _ (Selector.takeIndex_settled hn _ hs), Selector.disturbanceCheck_near (hon hp)]
      rfl
    · rw [hexec _ (Selector.takeIndex_settled hn _ hs), State.isHeld, decide_eq_true hh,
        Selector.disturbanceCheck_held (hoff.2 hp)]
      rfl
    · rw [hexec _ (Selector.takeIndex_settled hn _ hs), State.isHeld, decide_eq_false hh,
        Selector.disturbanceCheck_disturbed hts (hoff.2 hp),
        Selector.beginMove_of_away hts ((zero_offTarget_iff p).2 hp)]
      rfl
end

section
/-! SUPPORT. HOME's condition, and what each report of the selector makes of the test in hand, case by case (R73, R78,
R86, R158, R161, R162). -/

namespace Sys2Proof.Machine

/-! ### HOME (R73) -/

theorem State.homeAllowed_iff (s : State) :
    s.homeAllowed = true ↔ s.sel.state = .lost ∨ s.sel.state = .fault ∨
      (s.sel.state = .settled ∧ (s.eng.state = .idle ∨ s.eng.state = .held)) := by
  unfold State.homeAllowed
  cases s.sel.state <;> simp

theorem doHome_accepted {s : State} (h : s.homeAllowed = true) :
    doHome s = (.plain .ok, ((s.setSel (s.sel.beginHoming none)).markRestart).arbitrate) := if_pos h

theorem doHome_notAllowed {s : State} (h : ¬ s.homeAllowed = true) : doHome s = (.plain .notAllowed, s) := if_neg h

/-! ### The restart mark (R162) -/

/-- A test parked within its band (R162). -/
theorem Engine.parkedInBand_iff (eng : Engine) :
    eng.parkedInBand = true ↔ eng.state = .held ∧ (eng.resume = some .firstLaser ∨ eng.resume = some .nextLaser) := by
  simp only [Engine.parkedInBand, Bool.and_eq_true, Bool.or_eq_true, decide_eq_true_iff]

theorem State.markRestart_of_parked {s : State}
    (h : s.eng.state = .held ∧ (s.eng.resume = some .firstLaser ∨ s.eng.resume = some .nextLaser)) :
    s.markRestart = s.setHold { s.hold with mark := true } := if_pos (s.eng.parkedInBand_iff.2 h)

theorem State.markRestart_of_not_parked {s : State}
    (h : ¬ (s.eng.state = .held ∧ (s.eng.resume = some .firstLaser ∨ s.eng.resume = some .nextLaser))) :
    s.markRestart = s := if_neg (mt s.eng.parkedInBand_iff.1 h)

/-! ### A report by the engine's state -/

section
variable {s : State}

theorem State.heed_arrival (h : s.eng.state = .position) : s.heed .arrival = s.arrive := if_pos h

theorem State.heed_failure (h : s.eng.state = .position) : s.heed .failure = s.clearMark.abort .selector := if_pos h

theorem State.heed_disturbed (h : s.eng.state.shooting = true) : s.heed .disturbed = s.abort .disturbed := if_pos h

theorem State.heed_lostSettled (h : s.eng.state.shooting = true) : s.heed .lostSettled = s.abort .selector := if_pos h

theorem State.heed_lostSettled_of_not_shooting (h : s.eng.state.shooting = false) :
    s.heed .lostSettled = s.markRestart := by
  rw [State.heed, h, if_neg Bool.false_ne_true]

end

/-! ### A test that ends before its time (R27, R65, R86) -/

section
variable {s : State}

theorem State.abort_of_noTest (h : s.queue.running = none) (c : Cause) :
    s.abort c = s.endTest .failed (some c) Report.none false := by
  rw [State.abort, h]

theorem State.arrive_of_noTest (h : s.queue.running = none) : s.arrive = s.clearMark.cancelTest := by
  rw [State.arrive, h]

variable {e : Entry} {ri : RunInfo} (h : s.queue.running = some e) (hr : e.run = some ri)
include h hr

theorem State.abort_of_running (c : Cause) :
    s.abort c = if ri.cancelPending then s.endTest .cancelled none Report.none false
      else s.endTest .failed (some c) Report.none false := by
  obtain ⟨_, _, _, _, _, _⟩ := e
  cases hr
  rw [State.abort, h]

theorem State.abort_of_cancelled (hc : ri.cancelPending = true) (c : Cause) :
    s.abort c = s.endTest .cancelled none Report.none false := by
  rw [State.abort_of_running h hr, if_pos hc]

theorem State.abort_of_failed (hc : ri.cancelPending = false) (c : Cause) :
    s.abort c = s.endTest .failed (some c) Report.none false := by
  rw [State.abort_of_running h hr, hc, if_neg Bool.false_ne_true]

/-! ### Arrival (R78, R158, R161) -/

theorem State.arrive_of_running :
    s.arrive = if ri.cancelPending then s.clearMark.cancelTest
      else if s.hold.isEmpty then s.goOn ri else s.park (s.eng.resume.getD .beforeBand) := by
  obtain ⟨_, _, _, _, _, _⟩ := e
  cases hr
  rw [State.arrive, h]

theorem State.arrive_of_cancelled (hc : ri.cancelPending = true) : s.arrive = s.clearMark.cancelTest := by
  rw [State.arrive_of_running h hr, if_pos hc]

theorem State.arrive_of_hold (hc : ri.cancelPending = false) (hm : ∃ c, s.hold.members.at c = true) :
    s.arrive = s.park (s.eng.resume.getD .beforeBand) := by
  rw [State.arrive_of_running h hr, hc, if_neg Bool.false_ne_true, (HoldUnit.isEmpty_eq_false_iff _).2 hm,
    if_neg Bool.false_ne_true]

end

/-- The state a test goes on in at arrival (R161). -/
def State.resumed (s : State) : State :=
  ((s.setQueue (s.queue.setRun (fun x => { x with suspended := false }))).setEng
    { s.eng with resume := none }).clearMark

section
variable {s : State} (ri : RunInfo)

theorem State.goOn_of_beforeBand (h : s.eng.resume = none ∨ s.eng.resume = some .beforeBand) :
    s.goOn ri = s.resumed.beginBand ri.plan.first := by
  rcases h with h | h <;> simp only [State.goOn, h, State.resumed]

theorem State.goOn_of_inBand {b : Band} (hb : s.eng.band = some b)
    (h : s.eng.resume = some .firstLaser ∨ s.eng.resume = some .nextLaser) :
    s.goOn ri = if s.hold.mark then s.resumed.beginBand b else s.resumed.beginLaserBlock := by
  rcases h with h | h <;> simp only [State.goOn, h, hb, State.resumed]

end

end Sys2Proof.Machine

open Sys2Proof
open Sys2Proof.Machine

/-- Settles O40: `doHome` by `State.homeAllowed`. -/
theorem homeFollowsItsTable : Obligations.HomeFollowsItsTable := by
  intro s c tag h
  have hanswer : ∀ {x u}, doHome s = (x, u) →
      Answered s (s.takeRequest c tag .home) c (s.linkAfter c true) 11 tag x ∧
        s.takeRequest c tag .home = u.setHw (s.takeRequest c tag .home).hw :=
    fun hu => State.takeRequest_of_handle (r := .home) tag h nofun nofun rfl hu
  refine ⟨s.takeRequest c tag .home, rfl, fun ok hok => ?_⟩
  rw [hok, ← s.homeAllowed_iff]
  exact ⟨fun hyes => hanswer (doHome_accepted hyes), fun hno => hanswer (doHome_notAllowed hno)⟩

/-- Settles O41: `State.heed` by the engine's state, then `State.abort` and `State.arrive` by the test in hand. -/
theorem selectorReportsReachTheEngine : Obligations.SelectorReportsReachTheEngine := by
  intro s
  refine ⟨rfl, fun hp => ⟨if_neg hp, if_neg hp⟩, fun hs => if_neg (by simp [hs]),
    fun hn => ⟨State.markRestart_of_not_parked hn, fun hs => ?_⟩, fun hh hr => ?_,
    fun e ri he hri => ⟨fun hs hc => ?_, fun hs hc => ?_, ?_⟩, fun he => ⟨fun hs => ?_, fun hp => ?_⟩⟩
  · rw [State.heed_lostSettled_of_not_shooting hs, State.markRestart_of_not_parked hn]
  · have hmark := State.markRestart_of_parked ⟨hh, hr⟩
    exact ⟨hmark, (State.heed_lostSettled_of_not_shooting (by rw [hh]; rfl)).trans hmark⟩
  · rw [State.heed_disturbed hs, State.heed_lostSettled hs]
    exact ⟨State.abort_of_cancelled he hri hc _, State.abort_of_cancelled he hri hc _⟩
  · rw [State.heed_disturbed hs, State.heed_lostSettled hs]
    exact ⟨State.abort_of_failed he hri hc _, State.abort_of_failed he hri hc _⟩
  · rintro hp u rfl
    rw [State.heed_failure hp, State.heed_arrival hp]
    refine ⟨fun hc => ⟨State.abort_of_cancelled (s := s.clearMark) he hri hc _, State.arrive_of_cancelled he hri hc⟩,
      fun hc => State.abort_of_failed (s := s.clearMark) he hri hc _, fun hc hm => State.arrive_of_hold he hri hc hm, ?_⟩
    rintro hc hm v rfl
    rw [State.arrive_goesOn he hri hc ((HoldUnit.isEmpty_iff _).2 hm)]
    exact ⟨s.goOn_of_beforeBand ri, fun b hb hr => s.goOn_of_inBand ri hb hr⟩
  · rw [State.heed_disturbed hs, State.heed_lostSettled hs]
    exact ⟨State.abort_of_noTest he _, State.abort_of_noTest he _⟩
  · rw [State.heed_arrival hp, State.heed_failure hp]
    exact ⟨State.arrive_of_noTest he, State.abort_of_noTest (s := s.clearMark) he _⟩
end

section
/-! SUPPORT. HOLD, RESUME and the hold timer as requests and events (R71, R157 to R162). -/

namespace Sys2Proof.Machine

/-! ### The re-drive that a hold has deferred (R71) -/

theorem Selector.deferredMove_of_away {x : Selector} (hs : x.state = .settled) (ho : x.offTarget = true) :
    x.deferredMove = { x with
      state := .moving, changes := 0, moveTimer := some 2000000000, settleTimer := none, fresh := true } := by
  obtain ⟨p, ht, -⟩ := x.offTarget_iff.1 ho
  rw [← Selector.beginMove_of_away ht ((Selector.offTarget_of_target ht).1 ho)]
  simp only [Selector.deferredMove, ht, if_pos (And.intro hs ho)]

theorem Selector.deferredMove_of_stays {x : Selector} (h : ¬ (x.state = .settled ∧ x.offTarget = true)) :
    x.deferredMove = x := by
  unfold Selector.deferredMove
  split
  · exact if_neg h
  · rfl

/-! ### The answers (R157, R160) -/

theorem doHold_eq {s u : State} {c : Client} (h : s.joinHold c = u) : doHold c s = (u.holdAnswer, u) := by
  rw [doHold, h]

theorem doResume_eq {s u : State} {c : Client} (h : s.resumeFrom c = u) : doResume c s = (u.holdAnswer, u) := by
  rw [doResume, h]

theorem State.resumeFrom_of_not_member {s : State} {c : Client} (h : s.hold.members.at c = false) :
    s.resumeFrom c = s := by
  rw [State.resumeFrom, h, if_neg Bool.false_ne_true]

theorem State.resumeFrom_of_member {s : State} {c : Client} (h : s.hold.members.at c = true) :
    s.resumeFrom c = (s.leaveHold c).arbitrate := if_pos h

theorem State.leaveHold_of_others {s : State} {c : Client} (h : ∃ d, d ≠ c ∧ s.hold.members.at d = true) :
    s.leaveHold c = s.without c := by
  obtain ⟨d, hd, hm⟩ := h
  refine State.leaveHold_of_not_last fun hl => ?_
  exact absurd (hm.symm.trans (hl.2 d hd)) (by decide)

/-- A draining laser block starts again from its first shot, with the block counter loaded (R79, R160). -/
theorem State.releaseHold_of_laserBlock_eq {s : State} (hs : s.eng.state = .draining) (hk : s.eng.kind = .laser) :
    s.releaseHold = s.setEng { s.eng with
      state := .acquire, sums := [], counter := 256, sampling := true
      trigger := if s.sel.state = .settled then s.eng.band else none } := by
  rw [State.releaseHold_of_laserBlock hs hk]
  simp [Engine.startBlock, Engine.startShot, Selector.permit, hk, Config.shotsPerBlock]

/-! ### The hold timer (R162) -/

theorem execHoldTimerExpiry_of_stopped {s : State} (h : s.hold.timer = none) :
    exec .holdTimerExpiry s = .next s := by
  change execHoldTimerExpiry s = _
  rw [execHoldTimerExpiry, h]
  rfl

theorem State.setHold_markRestart (s : State) (h : HoldUnit) :
    (s.setHold h).markRestart = s.setHold { h with mark := h.mark || decide (s.eng.state = .held ∧
      (s.eng.resume = some .firstLaser ∨ s.eng.resume = some .nextLaser)) } := by
  by_cases hp : s.eng.state = .held ∧ (s.eng.resume = some .firstLaser ∨ s.eng.resume = some .nextLaser)
  · rw [decide_eq_true hp, Bool.or_true]
    exact State.markRestart_of_parked (s := s.setHold h) hp
  · rw [decide_eq_false hp, Bool.or_false]
    exact State.markRestart_of_not_parked (s := s.setHold h) hp

theorem execHoldTimerExpiry_of_running {s : State} (h : s.hold.timer.isSome = true) :
    exec .holdTimerExpiry s = .next (s.setHold { s.hold with
      timer := none
      mark := s.hold.mark || decide (s.eng.state = .held ∧
        (s.eng.resume = some .firstLaser ∨ s.eng.resume = some .nextLaser)) }) := by
  change execHoldTimerExpiry s = _
  rw [execHoldTimerExpiry, if_pos h, State.setHold_markRestart]

/-! ### The requests taken -/

/-- HOLD taken: its answer and state, by what the client's joining makes of the state (R157, R158). -/
theorem State.takeRequest_hold {s : State} {c : Client} (tag : Tag) (h : s.takes c) :
    Answered s (s.takeRequest c tag .hold) c (s.linkAfter c true) 18 tag (s.takeRequest c tag .hold).holdAnswer ∧
      ∀ u, s.joinHold c = u → s.takeRequest c tag .hold = u.setHw (s.takeRequest c tag .hold).hw := by
  obtain ⟨ha, ht⟩ := State.takeRequest_of_handle (r := .hold) (single := true) tag h nofun nofun rfl rfl
  exact ⟨(congrArg State.holdAnswer ht).trans (State.holdAnswer_setHw ..) ▸ ha, fun _ hu => hu ▸ ht⟩

/-- RESUME taken: its answer and state, by what the client's leaving makes of the state (R160, R161). -/
theorem State.takeRequest_resume {s : State} {c : Client} (tag : Tag) (h : s.takes c) :
    Answered s (s.takeRequest c tag .resume) c (s.linkAfter c true) 19 tag (s.takeRequest c tag .resume).holdAnswer ∧
      ∀ u, s.resumeFrom c = u → s.takeRequest c tag .resume = u.setHw (s.takeRequest c tag .resume).hw := by
  obtain ⟨ha, ht⟩ := State.takeRequest_of_handle (r := .resume) (single := true) tag h nofun nofun rfl rfl
  exact ⟨(congrArg State.holdAnswer ht).trans (State.holdAnswer_setHw ..) ▸ ha, fun _ hu => hu ▸ ht⟩

end Sys2Proof.Machine

open Sys2Proof
open Sys2Proof.Machine

/-- Settles O55: `State.joinHold` and `State.releaseHold` by the engine's state. -/
theorem holdAndResumeFollowTheirTables : Obligations.HoldAndResumeFollowTheirTables := by
  refine ⟨fun x far hfar => ?_, fun s c tag => ⟨fun h => ?_, ?_, ?_⟩⟩
  · rw [hfar, ← x.offTarget_iff]
    exact ⟨fun ⟨hs, ho⟩ => Selector.deferredMove_of_away hs ho, Selector.deferredMove_of_stays⟩
  · obtain ⟨hholdAnswer, hhold⟩ := State.takeRequest_hold tag h
    obtain ⟨hresumeAnswer, hresume⟩ := State.takeRequest_resume tag h
    refine ⟨_, _, rfl, rfl, ⟨_, _, rfl, rfl, hholdAnswer, hresumeAnswer⟩,
      fun hm => hhold _ (State.joinHold_of_member hm), fun hm => ⟨hresume _ (State.resumeFrom_of_not_member hm), ?_⟩,
      fun hm => ?_⟩
    · rintro v rfl
      exact ⟨fun hd => hhold _ (State.joinHold_of_others hm hd), fun hd =>
        ⟨fun hs => hhold _ (State.joinHold_of_idle hm hd hs), fun hs => hhold _ (State.joinHold_of_block hm hd hs),
          fun hs => hhold _ (State.joinHold_of_later hm hd hs)⟩⟩
    · rintro v rfl
      have hleave : ∀ u, s.leaveHold c = u →
          s.takeRequest c tag .resume = u.arbitrate.setHw (s.takeRequest c tag .resume).hw :=
        fun _ hu => hresume _ (by rw [State.resumeFrom_of_member hm, hu])
      refine ⟨fun hd => hleave _ (State.leaveHold_of_others hd), fun hd => ?_⟩
      have hlast := State.leaveHold_of_last ⟨hm, hd⟩
      refine ⟨fun hs => ?_, fun hs hk => ?_, fun hs hk => ?_, ?_⟩
      · have hnot : s.eng.state ≠ .draining ∧ s.eng.state ≠ .held := by
          rcases hs with hs | hs | hs | hs | hs <;> simp [hs]
        exact hleave _ (hlast.trans (State.releaseHold_of_other hnot.1 hnot.2))
      · exact hleave _ (hlast.trans (State.releaseHold_of_darkBlock hs hk))
      · exact hleave _ (hlast.trans (State.releaseHold_of_laserBlock_eq hs hk))
      · rintro hs z rfl
        exact ⟨fun hr => hleave _ (hlast.trans (State.releaseHold_of_noTest hs hr)),
          fun e hr => hleave _ (hlast.trans (State.releaseHold_of_held hs hr))⟩
  · exact execHoldTimerExpiry_of_stopped
  · exact execHoldTimerExpiry_of_running
end

section
/-! SUPPORT. The end of a shot by the shots left (R79, R80), and the boundaries of a dark block and of a drained laser
block (R81, R84). -/

namespace Sys2Proof.Machine

/-! ### Where a shot's samples go (R79, R84) -/

section
variable {eng : Engine} (xs : List Nat)

theorem Engine.addShot_dark (h : eng.kind = .dark) :
    eng.addShot xs = { eng with darkTotal := eng.darkTotal + xs.sum } := by
  simp only [Engine.addShot, h]

theorem Engine.addShot_laser (h : eng.kind = .laser) (hs : eng.sampling = true) :
    eng.addShot xs = { eng with
      sums := addSums eng.sums xs, clips := orFlags eng.clips (xs.map (fun v => decide (v = 4095))) } := by
  simp only [Engine.addShot, h, hs, if_true]

theorem Engine.addShot_notSampled (h : eng.kind = .laser) (hs : eng.sampling = false) : eng.addShot xs = eng := by
  simp only [Engine.addShot, h, hs, Bool.false_eq_true, if_false]

end

/-! ### The end of a shot -/

/-- The next shot of a block: its trigger decided, and whether it is sampled (R79, R84, R85). -/
theorem State.nextShot_eq (s : State) (xs : List Nat) :
    ({ s.eng.addShot xs with counter := s.eng.counter - 1 } : Engine).startShot s.sel.permit =
      { s.eng.addShot xs with
        counter := s.eng.counter - 1
        trigger := if s.eng.state = .acquire ∧ s.eng.kind = .laser ∧ s.sel.state = .settled then s.eng.band else none
        sampling := decide (¬ (s.eng.state = .draining ∧ s.eng.kind = .laser)) } := by
  simp only [Engine.startShot, Selector.permit, Engine.addShot_state, Engine.addShot_kind, Engine.addShot_band,
    decide_eq_true_iff]

section
variable {s : State} (x : Samples)

/-- Without a shot in progress there is none to end (log entry 3). -/
theorem State.endShot_of_noShot (h : s.eng.state.shooting = false ∨ s.eng.counter = 0) : s.endShot x = s := by
  have hno : ¬ (s.eng.state.shooting = true ∧ 1 ≤ s.eng.counter) := by rcases h with h | h <;> simp [h]
  unfold State.endShot
  split
  · exact if_neg hno
  · rfl

variable {sn : Snapshot} {b : Band} (hsn : s.eng.snap = some sn) (hb : s.eng.band = some b)
  (hs : s.eng.state.shooting = true)
include hsn hb hs

/-- A shot that is not the last of its block: the next one starts. -/
theorem State.endShot_of_more (hc : 2 ≤ s.eng.counter) :
    s.endShot x = s.setEng
      (({ s.eng.addShot (shotSamples x sn.points) with counter := s.eng.counter - 1 } : Engine).startShot
        s.sel.permit) := by
  simp only [State.endShot, hsn, hb]
  rw [if_pos ⟨hs, by omega⟩, if_neg (by omega)]

/-- The last shot of a block: the block boundary follows at once (log entry 6). -/
theorem State.endShot_of_last (hc : s.eng.counter = 1) :
    s.endShot x =
      ((s.setEng { s.eng.addShot (shotSamples x sn.points) with counter := 0 }).boundary sn b).arbitrate := by
  simp only [State.endShot, hsn, hb]
  rw [if_pos ⟨hs, hc.ge⟩, if_pos hc]

end

/-! ### The boundary commands (R81, R82, R84) -/

section
variable (s : State) (x : Samples)

theorem exec_shot : exec (.shot x) s = .next (s.endShot x) := rfl

theorem exec_darkBlockBoundary :
    exec (.darkBlockBoundary x) s = .next (if s.lastShot = true ∧ s.eng.kind = .dark then s.endShot x else s) := rfl

theorem exec_laserBlockBoundary :
    exec (.laserBlockBoundary x) s =
      .next (if s.lastShot = true ∧ s.eng.kind = .laser ∧ s.eng.state ≠ .draining then s.endShot x else s) := rfl

theorem exec_drainedBlockBoundary :
    exec (.drainedBlockBoundary x) s =
      .next (if s.lastShot = true ∧ s.eng.kind = .laser ∧ s.eng.state = .draining then s.endShot x else s) := rfl

theorem State.lastShot_iff : s.lastShot = true ↔ s.eng.state.shooting = true ∧ s.eng.counter = 1 := by
  simp [State.lastShot]

theorem State.lastShot_eq_false : s.lastShot = false ↔ s.eng.state.shooting = false ∨ s.eng.counter ≠ 1 := by
  rw [State.lastShot, Bool.and_eq_false_iff, decide_eq_false_iff_not]

end

/-! ### The boundary of a dark or a drained block -/

/-- A dark or a drained block ends, and `v` is the state with its sums dealt with: the band's dark value taken (R81), or
the block sums discarded (R84). -/
def State.BlockClosed (s : State) (sn : Snapshot) (b : Band) (v : State) : Prop :=
  (s.eng.kind = .dark ∧ v = s.setEng { s.eng with
      darks := s.eng.darks.put b (some (s.eng.darkTotal / (256 * sn.points))), darkTotal := 0 }) ∨
    (s.eng.kind = .laser ∧ s.eng.state = .draining ∧ v = s.setEng { s.eng with sums := [] })

section
variable {s v : State} {sn : Snapshot} {b : Band} (hv : s.BlockClosed sn b v)
include hv

theorem State.BlockClosed.eq : v = s.setEng v.eng := by
  rcases hv with ⟨-, rfl⟩ | ⟨-, -, rfl⟩ <;> rfl

theorem State.boundary_detached (h : s.queue.running = none) : s.boundary sn b = v.cancelTest := by
  rcases hv with ⟨hk, rfl⟩ | ⟨hk, hd, rfl⟩
  · rw [State.boundary, hk]
    simp only [State.darkBoundary, h]
    rfl
  · rw [State.boundary, hk]
    simp only [if_pos hd, State.drainedBoundary, h]

/-- Cancel pending decides first, then whether the engine drains (R81, R84, R159). -/
theorem State.boundary_of_running {e : Entry} {ri : RunInfo} (h : s.queue.running = some e) (hr : e.run = some ri) :
    s.boundary sn b =
      if ri.cancelPending = true then v.cancelTest
      else if s.eng.state = .draining then v.park (if s.eng.kind = .dark then .firstLaser else .nextLaser)
      else v.beginLaserBlock := by
  obtain ⟨_, _, _, _, _, _⟩ := e
  cases hr
  rcases hv with ⟨hk, rfl⟩ | ⟨hk, hd, rfl⟩
  · rw [State.boundary, hk]
    simp only [State.darkBoundary, h]
    rfl
  · rw [State.boundary, hk]
    simp only [if_pos hd, State.drainedBoundary, h]
    rfl

end

/-- A test parked while its engine drains: suspended, HELD, and the hold timer started (R158, R159). -/
theorem State.BlockClosed.park_eq {s v : State} {sn : Snapshot} {b : Band} (hv : s.BlockClosed sn b v)
    (point : ResumePoint) :
    v.park point =
      ((v.setEng { v.eng with state := .held, trigger := none, resume := some point }).setQueue
        { s.queue with
          entries := s.queue.entries.map (fun x =>
            { x with run := x.run.map (fun y => { y with suspended := true }) }) }).setHold
        { s.hold with timer := some 60000000000 } := by
  rw [hv.eq]
  rfl

/-! ### The beginning of a laser block (R80) -/

theorem State.beginLaserBlock_eq (s : State) :
    s.beginLaserBlock = s.setEng { s.eng with
      state := .acquire, kind := .laser, sums := [], counter := 256, sampling := true
      trigger := if s.sel.state = .settled then s.eng.band else none } := by
  simp [State.beginLaserBlock, Engine.beginLaserBlock, Engine.startBlock, Engine.startShot, Selector.permit,
    Config.shotsPerBlock]

end Sys2Proof.Machine

open Sys2Proof
open Sys2Proof.Machine

/-- Settles O43: the engine is the one after `Engine.addShot`, and the boundary commands act by whether the shot is the
last of its block. -/
theorem shotAddsItsSamples : Obligations.ShotAddsItsSamples := by
  refine fun s x => ⟨fun sn b hsn hb hs _ => ?_, fun h => congrArg _ (State.endShot_of_noShot x h), fun h => ?_⟩
  · refine ⟨s.eng.addShot (shotSamples x sn.points), Engine.addShot_eq _ _, fun hk => ?_, fun hk hn => ?_,
      fun hk hn => ?_, fun hc => ?_, fun hc t ht => ?_⟩
    · rw [Engine.addShot_dark _ hk]
      exact ⟨rfl, rfl, rfl⟩
    · exact Engine.addShot_notSampled _ hk hn
    · rw [Engine.addShot_laser _ hk hn]
      refine ⟨rfl, fun i => ?_, fun i => ?_⟩
      · rw [getD_addSums, getD_shotSamples]
      · rw [getD_orFlags, getD_shotClips]
    · rw [← s.nextShot_eq, ← State.endShot_of_more x hsn hb hs hc]
      rfl
    · have hlast : s.lastShot = true := s.lastShot_iff.2 ⟨hs, hc⟩
      obtain rfl : t = s.endShot x := ht.trans (State.endShot_of_last x hsn hb hs hc).symm
      simp only [exec_darkBlockBoundary, exec_laserBlockBoundary, exec_drainedBlockBoundary, hlast, true_and]
      exact ⟨exec_shot s x, fun hk => by simp [hk], fun hk hd => by simp [hk, hd], fun hk hd => by simp [hk, hd]⟩
  · have hlast : s.lastShot = false := s.lastShot_eq_false.2 h
    simp [exec_darkBlockBoundary, exec_laserBlockBoundary, exec_drainedBlockBoundary, hlast]

/-- Settles O44: `State.boundary` from the state with the block's sums dealt with. -/
theorem darkAndDrainedBoundariesFollowTheirCases : Obligations.DarkAndDrainedBoundariesFollowTheirCases := by
  refine fun s sn b => ⟨fun v hv => ?_, s.beginLaserBlock_eq, rfl⟩
  replace hv : s.BlockClosed sn b v := hv
  refine ⟨State.boundary_detached hv, fun e ri he hri => ?_⟩
  rw [State.boundary_of_running hv he hri]
  refine ⟨fun hc => if_pos hc, fun hc hd => ?_, fun hc hd => ?_⟩
  · rw [hc, if_neg Bool.false_ne_true, if_pos hd, hv.park_eq]
  · rw [hc, if_neg Bool.false_ne_true, if_neg hd]
end

section
/-! SUPPORT. The end of the analysis (R90): the fold of a compared test, the commit of a BASELINE, and the last-trace
pair. -/

namespace Sys2Proof.Machine

/-! ### The analysis timer -/

section
variable {s : State}

theorem execAnalysisEnd_of_stopped (h : s.eng.state ≠ .analyse ∨ s.eng.analysisTimer = none) :
    exec .analysisEnd s = .next s := by
  have hno : ¬ (s.eng.state = .analyse ∧ s.eng.analysisTimer.isSome = true) := by rcases h with h | h <;> simp [h]
  exact congrArg _ (if_neg hno)

variable (hs : s.eng.state = .analyse) (ht : s.eng.analysisTimer.isSome = true)
include hs ht

theorem execAnalysisEnd_of_noTest (h : s.queue.running = none) :
    exec .analysisEnd s = .next s.cancelTest.arbitrate := by
  refine congrArg _ ((if_pos ⟨hs, ht⟩).trans ?_)
  rw [h]

theorem execAnalysisEnd_of_test {e : Entry} {sn : Snapshot} (h : s.queue.running = some e) (hsn : s.eng.snap = some sn) :
    exec .analysisEnd s = .next (s.completeTest sn e).arbitrate := by
  refine congrArg _ ((if_pos ⟨hs, ht⟩).trans ?_)
  rw [h, hsn]

end

/-! ### The fold of a report (R129, R137) -/

/-- The unseen-findings flag is set by an announcing fold and otherwise stays. -/
theorem State.foldReport_eq (s : State) (sn : Snapshot) (e : Entry) (r : Report) {f : Fold}
    (hf : f = foldTest s.faults e.port (s.port e.port).profile.matchDistance sn.spacing e.ticket r) :
    s.foldReport sn e r =
      ((s.setFaults f.table).setPort e.port
        { s.port e.port with unseen := (s.port e.port).unseen || f.announced }, f.full) := by
  unfold State.foldReport
  rw [← hf]
  cases ha : f.announced with
  | true => simp [ha]
  | false =>
    have hself : (s.setFaults f.table).setPort e.port (s.port e.port) = s.setFaults f.table :=
      (s.setFaults f.table).setPort_self e.port
    simp [ha, hself]

/-! ### The completion of a test (R90, R92, R147) -/

/-- The last-trace pair replaced by a test's traces (R92). -/
def State.pairKept (t : State) (pair : LastPair) : State := t.setEng { t.eng with lastPair := some pair }

theorem State.completeTest_compared (s : State) (sn : Snapshot) {e : Entry} (h : ∀ b, e.kind ≠ .baseline b) {r : Report}
    (hr : r = analyse sn e.kind e.port s.eng.traces s.eng.views s.faults) :
    s.completeTest sn e =
      ((s.foldReport sn e r).1.pairKept (lastPairOf sn e s.eng.traces)).endTest .done none r
        (s.foldReport sn e r).2 := by
  unfold State.completeTest
  rw [hr]
  cases hk : e.kind with
  | baseline b => exact absurd hk (h b)
  | routine | urgent | confirm => rfl

theorem State.completeTest_baseline (s : State) (sn : Snapshot) {e : Entry} {b : Band} {tr : Trace}
    (h : e.kind = .baseline b) (htr : s.eng.traces.at b = some tr) :
    s.completeTest sn e =
      ((s.setStore (s.store.commitCapture (slotOf e.port b) (s.captureOf sn e b tr))).pairKept
        (lastPairOf sn e s.eng.traces)).endTest .done none Report.none false := by
  unfold State.completeTest
  rw [h]
  simp only [htr]
  rfl

theorem Store.commitCapture_of_reserved {st : Store} {i : Fin 4} (h : st.reservedBuffer = some i) (slot : Fin 64)
    (c : Capture) :
    st.commitCapture slot c = ({ st with buffers := st.buffers.put i (.held c) } : Store).place slot (.write i) := by
  rw [Store.commitCapture, h]

end Sys2Proof.Machine

open Sys2Proof
open Sys2Proof.Machine

/-- Settles O46: `State.completeTest` by the kind of the test in hand. -/
theorem analysisEndCompletesTheTest : Obligations.AnalysisEndCompletesTheTest := by
  refine fun s => ⟨execAnalysisEnd_of_stopped, fun hs ht hnone => execAnalysisEnd_of_noTest hs ht hnone, ?_⟩
  rintro hs ht e sn pair he hsn rfl
  rw [execAnalysisEnd_of_test hs ht he hsn]
  refine ⟨?_, ?_⟩
  · rintro hk r f hr hf
    rw [s.completeTest_compared sn hk hr, s.foldReport_eq sn e _ hf]
    rfl
  · rintro b tr i c hk htr hi rfl
    rw [s.completeTest_baseline sn hk htr, Store.commitCapture_of_reserved hi]
    rfl
end

section
/-! SUPPORT. GET TRACE (R93, R94, R155): the trace point words, and the answers of the two sources. -/

namespace Sys2Proof.Machine

/-! ### Trace point words (R175) -/

section
variable (x : TracePoint)

theorem pointHalf_below : (pointHalf x).getLsbD 14 = x.below := by
  simp only [pointHalf, BitVec.getLsbD_append]
  simp

theorem pointHalf_clip : (pointHalf x).getLsbD 13 = x.clip := by
  simp only [pointHalf, BitVec.getLsbD_append]
  simp

theorem pointHalf_level (hlow : -4096 ≤ x.level) (hhigh : x.level ≤ 3071) :
    (((pointHalf x).extractLsb' 0 13).toNat : Int) = x.level + 4096 := by
  have hfield : (pointHalf x).extractLsb' 0 13 = BitVec.ofInt 13 (x.level + 4096) := BitVec.extractLsb'_append_eq_right
  rw [hfield, BitVec.toNat_ofInt]
  omega

end

theorem pointWords_length (xs : List TracePoint) : (pointWords xs).length = (xs.length + 1) / 2 := by
  induction xs using pointWords.induct with
  | case1 => rfl
  | case2 x => simp [pointWords]
  | case3 x y rest ih =>
    simp only [pointWords, List.length_cons, ih]
    omega

/-- Word `j` holds point `2 j` and, in its lower half, the point after it, or all ones. -/
theorem pointWords_getElem? (xs : List TracePoint) (j : Nat) :
    (pointWords xs)[j]? =
      xs[2 * j]?.map (fun x => pointHalf x ++ (xs[2 * j + 1]?.map pointHalf).getD (BitVec.allOnes 15)) := by
  induction xs using pointWords.induct generalizing j with
  | case1 => rfl
  | case2 x => cases j <;> rfl
  | case3 x y rest ih =>
    cases j with
    | zero => rfl
    | succ j => exact ih j

/-- The halves of a word of two points, or of an odd last one. -/
theorem pointWords_halves {xs : List TracePoint} {j : Nat} {w : Payload} {x : TracePoint}
    (hw : (pointWords xs)[j]? = some w) (hx : xs[2 * j]? = some x) :
    w.extractLsb' 15 15 = pointHalf x ∧
      w.extractLsb' 0 15 = (xs[2 * j + 1]?.map pointHalf).getD (BitVec.allOnes 15) := by
  rw [pointWords_getElem?, hx] at hw
  cases hw
  exact ⟨BitVec.extractLsb'_append_eq_left, BitVec.extractLsb'_append_eq_right⟩

/-- The number of points sent, and the points (R94, R155). -/
theorem pointsFrom_length (points : List TracePoint) (total first count : Nat) :
    (pointsFrom points total first count).length = min count (total - first) := by
  simp [pointsFrom]

theorem Kind.band_eq_some_iff (k : Kind) (b : Band) : k.band = some b ↔ k = .baseline b := by
  cases k <;> simp [Kind.band]

/-! ### The last-trace pair (R93, R94) -/

theorem Engine.lastTrace_eq_none {eng : Engine} {p : PortNo} {b : Band}
    (h : eng.lastPair = none ∨ ∃ q, eng.lastPair = some q ∧ (q.port ≠ p ∨ q.traces.at b = none)) :
    eng.lastTrace p b = none := by
  rcases h with h | ⟨q, hq, h | h⟩
  · rw [Engine.lastTrace, h]
  · simp only [Engine.lastTrace, hq, if_neg h]
  · simp only [Engine.lastTrace, hq, h, Option.map_none, ite_self]

theorem Engine.lastTrace_eq_some {eng : Engine} {p : PortNo} {b : Band} {q : LastPair} {tr : Trace}
    (hq : eng.lastPair = some q) (hp : q.port = p) (htr : q.traces.at b = some tr) :
    eng.lastTrace p b = some (q, tr) := by
  simp only [Engine.lastTrace, hq, if_pos hp, htr, Option.map_some]

section
variable {s : State} {p : PortNo} {b : Band} (first count : Payload)

theorem State.answerLast_unknown (h : s.eng.lastTrace p b = none) : s.answerLast p b first count = .plain .unknown := by
  rw [State.answerLast, h]

theorem State.answerLast_badValue {q : LastPair} {tr : Trace} (h : s.eng.lastTrace p b = some (q, tr))
    (hf : q.points ≤ first.toNat) : s.answerLast p b first count = .plain .badValue := by
  rw [State.answerLast, h]
  exact if_pos hf

theorem State.answerLast_ok {q : LastPair} {tr : Trace} (h : s.eng.lastTrace p b = some (q, tr))
    (hf : first.toNat < q.points) {n : Nat} (hn : n = min count.toNat (q.points - first.toNat)) :
    s.answerLast p b first count =
      { code := .ok
        body := [num q.port.val, num q.ticket, num q.kind.code, optNum (q.kind.band.map bandCode), num q.points,
            num q.period, num q.pulse, num q.averages, num q.groupIndex, num tr.endIndex, num tr.dark, num n] ++
          pointWords ((List.range n).map (fun j => pointAt tr.points (first.toNat + j))) } := by
  rw [State.answerLast, h]
  refine (if_neg (Nat.not_le.2 hf)).trans ?_
  rw [lastTraceBody, pointsFrom_length, pointsFrom, hn]

/-! ### A baseline slot (R155) -/

/-- A slot's copy is not yet verified while any commit entry is for it. -/
theorem Store.isPending_eq (st : Store) (slot : Fin 64) :
    st.isPending slot = st.commits.any (fun e => decide (e.slot = slot)) := by
  unfold Store.isPending Store.servingEntry
  split
  · rename_i e he
    have hslot := List.find?_some he
    simp only [Bool.and_eq_true] at hslot
    exact (List.any_eq_true.2 ⟨e, List.mem_of_find?_eq_some he, hslot.1⟩).symm
  · exact List.isSome_find?

theorem State.answerBaseline_unknown (h : s.store.read (slotOf p b) = none) :
    s.answerBaseline p b first count = .plain .unknown := by
  rw [State.answerBaseline, h]

theorem State.answerBaseline_badValue {k : Capture} (h : s.store.read (slotOf p b) = some k)
    (hf : k.points ≤ first.toNat) : s.answerBaseline p b first count = .plain .badValue := by
  rw [State.answerBaseline, h]
  exact if_pos hf

theorem State.answerBaseline_ok {k : Capture} (h : s.store.read (slotOf p b) = some k) (hf : first.toNat < k.points)
    {n : Nat} (hn : n = min count.toNat (k.points - first.toNat)) :
    s.answerBaseline p b first count =
      { code := .ok
        body := [num k.port.val, num (bandCode k.band), num k.points, num k.period, num k.pulse, num k.averages,
            num k.groupIndex, num k.endIndex, num k.dark, num k.ticket, optNum k.time,
            flag (s.store.commits.any (fun e => decide (e.slot = slotOf p b))), num n] ++
          pointWords ((List.range n).map (fun j => pointAt k.levels (first.toNat + j))) } := by
  rw [State.answerBaseline, h]
  refine (if_neg (Nat.not_le.2 hf)).trans ?_
  rw [baselineTraceBody, pointsFrom_length, pointsFrom, hn, Store.isPending_eq]

end

/-! ### The request (R93, R155) -/

theorem countLegal_iff (count : Payload) : countLegal count = true ↔ 1 ≤ count.toNat ∧ count.toNat ≤ 60 :=
  decide_eq_true_iff

/-- What GET TRACE answers the claimant of a port. -/
def State.answerTrace (s : State) (p : PortNo) (source band first count : Payload) : Response :=
  match bandOf band with
  | none => .plain .badValue
  | some b =>
    if countLegal count = false then .plain .badValue
    else if source = 0#30 then s.answerLast p b first count
    else if source = 1#30 then s.answerBaseline p b first count
    else .plain .badValue

/-- GET TRACE changes no state. -/
theorem doGetTrace_owned {s : State} {c : Client} {p : PortNo} (source : Payload) {port : Payload}
    (band first count : Payload) (hp : port.toNat = p.val) (hc : (s.port p).claimant = some c) :
    doGetTrace c source port band first count s = (s.answerTrace p source band first count, s) := by
  simp only [doGetTrace, ownedPort_of_claimant s c port p hp hc, State.answerTrace]
  cases bandOf band with
  | none => rfl
  | some b => simp only [apply_ite (fun x => (x, s))]

section
variable {s : State} {p : PortNo} (source : Payload) {band count : Payload} (first : Payload)

theorem State.answerTrace_badValue (h : 2 ≤ band.toNat ∨ count.toNat = 0 ∨ 60 < count.toNat) :
    s.answerTrace p source band first count = .plain .badValue := by
  unfold State.answerTrace
  split
  · rfl
  · rename_i b hb
    have hband : ¬ 2 ≤ band.toNat := fun h2 => by simp [bandOf_eq_none band h2] at hb
    refine if_pos (Bool.eq_false_iff.2 fun hl => ?_)
    rw [countLegal_iff] at hl
    omega

theorem State.answerTrace_noSource (h : 2 ≤ source.toNat) :
    s.answerTrace p source band first count = .plain .badValue := by
  have h0 : source ≠ 0#30 := fun he => by simp [he] at h
  have h1 : source ≠ 1#30 := fun he => by simp [he] at h
  unfold State.answerTrace
  split
  · rfl
  · rw [if_neg h0, if_neg h1, ite_self]

variable {b : Band} (hb : b = .A ∧ band.toNat = 0 ∨ b = .B ∧ band.toNat = 1) (h1 : 1 ≤ count.toNat)
  (h60 : count.toNat ≤ 60)
include hb h1 h60

theorem State.answerTrace_last : s.answerTrace p 0#30 band first count = s.answerLast p b first count := by
  simp [State.answerTrace, bandOf_of_val band b hb, (countLegal_iff count).2 ⟨h1, h60⟩]

theorem State.answerTrace_baseline : s.answerTrace p 1#30 band first count = s.answerBaseline p b first count := by
  simp [State.answerTrace, bandOf_of_val band b hb, (countLegal_iff count).2 ⟨h1, h60⟩]

end

end Sys2Proof.Machine

open Sys2Proof
open Sys2Proof.Machine

/-- Settles O47: both requests answer with `State.answerTrace`, and it by its checks and its source. -/
theorem getTraceServesPairAndBaseline : Obligations.GetTraceServesPairAndBaseline := by
  refine ⟨fun x hlow hhigh => ⟨pointHalf_below x, pointHalf_clip x, pointHalf_level x hlow hhigh⟩,
    fun xs => ⟨pointWords_length xs, fun j w x hw hx => ?_⟩, ⟨rfl, rfl, rfl, Kind.band_eq_some_iff⟩, ?_⟩
  · obtain ⟨hupper, hlower⟩ := pointWords_halves hw hx
    refine ⟨hupper, fun y hy => ?_, fun hlast => ?_⟩
    · rw [hlower, hy]
      rfl
    · rw [hlower, List.getElem?_eq_none hlast.le]
      rfl
  · intro s c tag source port band first count p h hp hc
    have htaken := fun source => State.takeRequest_of_handle (r := .getTrace source port band first count) tag h nofun
      nofun rfl (doGetTrace_owned source band first count hp hc)
    obtain ⟨ha, ht⟩ := htaken source
    obtain ⟨hab, htb⟩ := htaken 1#30
    refine ⟨_, _, _, _, rfl, ht, ha, rfl, htb, hab, fun h1 => ?_, fun hbad => ?_, fun hsource => ?_,
      fun b hb h1 h60 => ⟨fun h0 => ?_, fun hnone => ?_, fun k hk => ?_⟩⟩
    · rw [(payload_eq_iff source 1 (by decide)).2 h1]
    · exact ⟨State.answerTrace_badValue _ first hbad, State.answerTrace_badValue _ first hbad⟩
    · exact State.answerTrace_noSource source first hsource
    · rw [(payload_eq_iff source 0 (by decide)).2 h0, State.answerTrace_last first hb h1 h60]
      refine ⟨fun hnone => State.answerLast_unknown first count (Engine.lastTrace_eq_none hnone), ?_⟩
      rintro q tr hq rfl htr
      have hlast := Engine.lastTrace_eq_some hq rfl htr
      exact ⟨State.answerLast_badValue first count hlast, fun n hf hn => State.answerLast_ok first count hlast hf hn⟩
    · rw [State.answerTrace_baseline first hb h1 h60]
      exact State.answerBaseline_unknown first count hnone
    · rw [State.answerTrace_baseline first hb h1 h60]
      exact ⟨State.answerBaseline_badValue first count hk, fun n hf hn => State.answerBaseline_ok first count hk hf hn⟩
end

section
/-! SUPPORT. Trace arithmetic (chapter 6): the logarithm by the place of the highest bit, a converted point by its mean
signal above dark, the rounded quotients, and the end index as the first dark run. -/

namespace Sys2Proof.Machine

/-! ### The logarithm (R98) -/

section
variable {s e : Nat}

/-- The nine bits of `s` from its highest set bit on are `s * 256 / 2 ^ e` in both cases of R98; here bits
are cut off. -/
theorem topBits_of_high (he : 8 ≤ e) : s / 2 ^ (e - 8) = s * 256 / 2 ^ e := by
  have hpow : 2 ^ e = 2 ^ (e - 8) * 256 := by
    rw [show 256 = 2 ^ 8 from rfl, ← Nat.pow_add, Nat.sub_add_cancel he]
  rw [hpow, Nat.mul_div_mul_right _ _ (by decide)]

/-- Here the bits are filled up with zeros (R98). -/
theorem topBits_of_low (he : e < 8) : s * 2 ^ (8 - e) = s * 256 / 2 ^ e := by
  have hpow : 256 = 2 ^ (8 - e) * 2 ^ e := by rw [← Nat.pow_add, Nat.sub_add_cancel he.le]
  rw [hpow, ← Nat.mul_assoc, Nat.mul_div_cancel _ (Nat.two_pow_pos e)]

theorem topBits_bounds (hlow : 2 ^ e ≤ s) (hhigh : s < 2 ^ (e + 1)) :
    256 ≤ s * 256 / 2 ^ e ∧ s * 256 / 2 ^ e < 512 := by
  rw [Nat.pow_succ] at hhigh
  rw [Nat.le_div_iff_mul_le (Nat.two_pow_pos e), Nat.div_lt_iff_lt_mul (Nat.two_pow_pos e)]
  omega

theorem lg_add_256 (hlow : 2 ^ e ≤ s) (hhigh : s < 2 ^ (e + 1)) : lg s + 256 = 256 * e + s * 256 / 2 ^ e := by
  have hs : s ≠ 0 := (Nat.lt_of_lt_of_le (Nat.two_pow_pos e) hlow).ne'
  obtain ⟨h256, -⟩ := topBits_bounds hlow hhigh
  rw [lg, (Nat.log2_eq_iff hs).2 ⟨hlow, hhigh⟩]
  split
  case isTrue he =>
    rw [topBits_of_high he]
    omega
  case isFalse he =>
    rw [topBits_of_low (by omega)]
    omega

/-- R98 as it is worded: 256 times the place of the highest bit, and the eight bits behind it. -/
theorem lg_eq {m : Nat} (hlow : 2 ^ e ≤ s) (hhigh : s < 2 ^ (e + 1)) (hm : 8 ≤ e → m = s / 2 ^ (e - 8) - 256)
    (hm' : e < 8 → m = s * 2 ^ (8 - e) - 256) : m ≤ 255 ∧ lg s = 256 * e + m := by
  have hlg := lg_add_256 hlow hhigh
  obtain ⟨h256, h512⟩ := topBits_bounds hlow hhigh
  have hbits : m = s * 256 / 2 ^ e - 256 := by
    rcases Nat.lt_or_ge e 8 with he | he
    · rw [hm' he, topBits_of_low he]
    · rw [hm he, topBits_of_high he]
  omega

theorem lg_octave (hlow : 2 ^ e ≤ s) (hhigh : s < 2 ^ (e + 1)) : 256 * e ≤ lg s ∧ lg s < 256 * (e + 1) := by
  have hlg := lg_add_256 hlow hhigh
  have hbits := topBits_bounds hlow hhigh
  omega

/-- Every signal lies in the octave of its highest bit. -/
theorem exists_octave (hs : 1 ≤ s) : ∃ e, 2 ^ e ≤ s ∧ s < 2 ^ (e + 1) :=
  ⟨s.log2, Nat.log2_self_le (by omega), Nat.lt_log2_self⟩

theorem lg_one : lg 1 = 0 := by decide

theorem lg_lt {n : Nat} (hs : 1 ≤ s) (hn : s < 2 ^ n) : lg s < 256 * n := by
  obtain ⟨e, hlow, hhigh⟩ := exists_octave hs
  have hen : e < n := (Nat.pow_lt_pow_iff_right (by decide)).1 (Nat.lt_of_le_of_lt hlow hn)
  have hlg := lg_octave hlow hhigh
  omega

/-- Within an octave the bits behind the highest one decide; from a lower octave to a higher one lg rises. -/
theorem lg_mono {t : Nat} (hs : 1 ≤ s) (hst : s ≤ t) : lg s ≤ lg t := by
  obtain ⟨e, hlow, hhigh⟩ := exists_octave hs
  obtain ⟨e', hlow', hhigh'⟩ := exists_octave (Nat.le_trans hs hst)
  have hee : e < e' + 1 :=
    (Nat.pow_lt_pow_iff_right (by decide)).1 (Nat.lt_of_le_of_lt (Nat.le_trans hlow hst) hhigh')
  rcases Nat.lt_or_eq_of_le (Nat.le_of_lt_succ hee) with hlt | rfl
  · have hlg := lg_octave hlow hhigh
    have hlg' := lg_octave hlow' hhigh'
    omega
  · have hbits : s * 256 / 2 ^ e ≤ t * 256 / 2 ^ e := Nat.div_le_div_right (Nat.mul_le_mul_right 256 hst)
    have hlg := lg_add_256 hlow hhigh
    have hlg' := lg_add_256 hlow' hhigh'
    omega

/-- Shots doubled `n` times are `n` whole octaves of lg, with no loss by its truncation. -/
theorem lg_mul_two_pow (n : Nat) (hs : 1 ≤ s) : lg (s * 2 ^ n) = lg s + 256 * n := by
  obtain ⟨e, hlow, hhigh⟩ := exists_octave hs
  have hlow' : 2 ^ (e + n) ≤ s * 2 ^ n := by
    rw [Nat.pow_add]
    exact Nat.mul_le_mul_right _ hlow
  have hhigh' : s * 2 ^ n < 2 ^ (e + n + 1) := by
    rw [Nat.add_right_comm, Nat.pow_add]
    exact Nat.mul_lt_mul_of_pos_right hhigh (Nat.two_pow_pos n)
  have hbits : s * 2 ^ n * 256 / 2 ^ (e + n) = s * 256 / 2 ^ e := by
    rw [Nat.mul_right_comm, Nat.pow_add, Nat.mul_div_mul_right _ _ (Nat.two_pow_pos n)]
  have hlg := lg_add_256 hlow hhigh
  have hlg' := lg_add_256 hlow' hhigh'
  omega

end

/-! ### A converted point (R96, R97, R99) -/

section
variable {k l dark dark' sum sum' : Nat}

/-- A clamped point converts as one count above dark (R96). -/
theorem correctedSignal_of_le (h : sum ≤ 2 ^ k * dark) : correctedSignal (darkDifference k dark sum) = 1 := by
  rw [correctedSignal, darkDifference, if_neg (by omega)]

theorem darkDifference_of_lt (h : 2 ^ k * dark < sum) :
    darkDifference k dark sum = ((sum - 2 ^ k * dark : Nat) : Int) := by
  rw [darkDifference, Int.ofNat_sub h.le]

theorem correctedSignal_of_lt (h : 2 ^ k * dark < sum) :
    correctedSignal (darkDifference k dark sum) = sum - 2 ^ k * dark := by
  rw [darkDifference_of_lt h, correctedSignal, if_pos (by omega), Int.toNat_natCast]

theorem correctedSignal_pos (d : Int) : 1 ≤ correctedSignal d := by
  unfold correctedSignal
  split <;> omega

/-- The corrected signal of 12-bit samples over 2^k shots has at most 12 + k bits (R99). -/
theorem correctedSignal_lt (h : sum ≤ 4095 * 2 ^ k) :
    correctedSignal (darkDifference k dark sum) < 2 ^ (12 + k) := by
  have hpow : 2 ^ (12 + k) = 4096 * 2 ^ k := Nat.pow_add 2 12 k
  have hpos := Nat.two_pow_pos k
  rcases Nat.lt_or_ge (2 ^ k * dark) sum with hd | hd
  · rw [correctedSignal_of_lt hd]
    omega
  · rw [correctedSignal_of_le hd]
    omega

variable (f : Nat) (clip : Bool)

theorem convertPoint_level_bounds (h : sum ≤ 4095 * 2 ^ k) :
    -256 * (k : Int) ≤ (convertPoint k f dark sum clip).level ∧ (convertPoint k f dark sum clip).level ≤ 3071 := by
  have hlg := lg_lt (correctedSignal_pos _) (correctedSignal_lt (dark := dark) h)
  simp only [convertPoint]
  omega

theorem convertPoint_below_iff :
    (convertPoint k f dark sum clip).below = true ↔ (sum : Int) - 2 ^ k * dark < 2 ^ k * f := by
  simp [convertPoint, darkDifference]

theorem convertPoint_level_of_le (h : sum ≤ 2 ^ k * dark) :
    (convertPoint k f dark sum clip).level = -256 * (k : Int) := by
  simp only [convertPoint, correctedSignal_of_le h, lg_one]
  omega

theorem convertPoint_level_of_lt (h : 2 ^ k * dark < sum) :
    (convertPoint k f dark sum clip).level = (lg (sum - 2 ^ k * dark) : Int) - 256 * k := by
  simp only [convertPoint, correctedSignal_of_lt h]

variable (h : 2 ^ k * dark < sum) (h' : 2 ^ l * dark' < sum')
  (hmean : (sum - 2 ^ k * dark) * 2 ^ l = (sum' - 2 ^ l * dark') * 2 ^ k)
include h h' hmean

/-- Signals of one mean, each brought to 2^(k + l) shots, have one lg. -/
theorem convertPoint_level_of_mean :
    (convertPoint k f dark sum clip).level = (convertPoint l f dark' sum' clip).level := by
  have hlg := lg_mul_two_pow l (Nat.sub_pos_of_lt h)
  have hlg' := lg_mul_two_pow k (Nat.sub_pos_of_lt h')
  rw [hmean] at hlg
  rw [convertPoint_level_of_lt f clip h, convertPoint_level_of_lt f clip h']
  omega

theorem convertPoint_below_of_mean :
    (convertPoint k f dark sum clip).below = (convertPoint l f dark' sum' clip).below := by
  have hfloor : sum - 2 ^ k * dark < 2 ^ k * f ↔ sum' - 2 ^ l * dark' < 2 ^ l * f := by
    calc sum - 2 ^ k * dark < 2 ^ k * f
      _ ↔ (sum - 2 ^ k * dark) * 2 ^ l < 2 ^ k * f * 2 ^ l := (Nat.mul_lt_mul_right (Nat.two_pow_pos l)).symm
      _ ↔ (sum' - 2 ^ l * dark') * 2 ^ k < 2 ^ l * f * 2 ^ k := by
        rw [hmean, show 2 ^ k * f * 2 ^ l = 2 ^ l * f * 2 ^ k by ring]
      _ ↔ sum' - 2 ^ l * dark' < 2 ^ l * f := Nat.mul_lt_mul_right (Nat.two_pow_pos k)
  simp only [convertPoint, darkDifference_of_lt h, darkDifference_of_lt h', Int.ofNat_lt, hfloor]

theorem convertPoint_of_mean : convertPoint k f dark sum clip = convertPoint l f dark' sum' clip :=
  congrArg₂ (fun level below => (⟨level, below, clip⟩ : TracePoint)) (convertPoint_level_of_mean f clip h h' hmean)
    (convertPoint_below_of_mean f clip h h' hmean)

end

/-! ### The dead-zone end and the rounded quotients (R102, R104 to R106) -/

theorem pulseNs_of_getElem? {code ns : Nat} (h : [10, 30, 100, 300, 1000, 3000, 10000][code]? = some ns) :
    pulseNs code = ns ∧ 0 < ns := by
  match code, h with
  | 0, h | 1, h | 2, h | 3, h | 4, h | 5, h | 6, h =>
    cases h
    decide

/-- A quotient rounded up is one more than the largest multiple that falls short. -/
theorem exists_ceilDiv {a b : Nat} (ha : 0 < a) (hb : 0 < b) :
    ∃ n, (a + (b - 1)) / b = n + 1 ∧ n * b < a ∧ a ≤ (n + 1) * b := by
  have hsum : a + (b - 1) = a - 1 + b := by omega
  have hlow := Nat.div_mul_le_self (a - 1) b
  have hhigh := Nat.lt_div_mul_add (a := a - 1) hb
  refine ⟨(a - 1) / b, by rw [hsum, Nat.add_div_right _ hb], by omega, ?_⟩
  rw [Nat.succ_mul]
  omega

theorem deadZoneEnd_ceil {code p ns : Nat} (h : [10, 30, 100, 300, 1000, 3000, 10000][code]? = some ns) :
    ∃ n, deadZoneEnd code p = n + 1 + 4 ∧ n * (5 * 2 ^ p) < 2 * ns ∧ 2 * ns ≤ (n + 1) * (5 * 2 ^ p) := by
  obtain ⟨hns, hpos⟩ := pulseNs_of_getElem? h
  have hperiod := Nat.two_pow_pos p
  obtain ⟨n, hn, hlow, hhigh⟩ := exists_ceilDiv (a := 2 * ns) (b := 5 * 2 ^ p) (by omega) (by omega)
  exact ⟨n, by rw [deadZoneEnd, hns, hn], hlow, hhigh⟩

theorem spacing_rounds {g : Nat} (p : Nat) (hg : 0 < g) :
    2 * g * spacing g p ≤ 2 * (37474057300 * 2 ^ p) + g ∧
      2 * (37474057300 * 2 ^ p) + g < 2 * g * (spacing g p + 1) :=
  ⟨Nat.mul_div_le _ _, Nat.lt_mul_div_succ _ (by omega)⟩

theorem distance_rounds (sp i : Nat) :
    100000 * distance sp i ≤ i * sp + 50000 ∧ i * sp + 50000 < 100000 * (distance sp i + 1) :=
  ⟨Nat.mul_div_le _ _, Nat.lt_mul_div_succ _ (by decide)⟩

theorem mdB_rounds (x : Int) : 256 * mdB x ≤ x * 1505 + 128 ∧ x * 1505 + 128 < 256 * (mdB x + 1) := by
  unfold mdB
  omega

/-! ### The end index (R103) -/

section
variable {points : List TracePoint}

theorem pointAt_of_getElem? {i : Nat} {q : TracePoint} (h : points[i]? = some q) : pointAt points i = q := by
  rw [pointAt, List.getD_eq_getElem?_getD, h, Option.getD_some]

/-- The eight points of a dark run are points of the trace, so the run ends within it. -/
theorem darkRunAt_iff (i : Nat) :
    darkRunAt points points.length i = true ↔ ∀ j, j < 8 → ∃ q, points[i + j]? = some q ∧ q.below = true := by
  simp only [darkRunAt, Bool.and_eq_true, decide_eq_true_eq, List.all_eq_true, List.mem_range]
  refine ⟨fun ⟨hfit, hbelow⟩ j hj => ?_, fun hrun => ⟨?_, fun j hj => ?_⟩⟩
  · have hq : points[i + j]? = some points[i + j] := List.getElem?_eq_getElem (by omega)
    have hdark := hbelow j hj
    rw [pointAt_of_getElem? hq] at hdark
    exact ⟨_, hq, hdark⟩
  · obtain ⟨q, hq, -⟩ := hrun 7 (by decide)
    exact (List.getElem?_eq_some_iff.1 hq).1
  · obtain ⟨q, hq, hdark⟩ := hrun j hj
    rw [pointAt_of_getElem? hq]
    exact hdark

variable {i0 count : Nat}

theorem darkRunAt_fits {i : Nat} (h : darkRunAt points count i = true) : i + 8 ≤ count := by
  rw [darkRunAt, Bool.and_eq_true, decide_eq_true_eq] at h
  omega

theorem endIndexOf_none (h : ∀ i, i0 ≤ i → ¬ darkRunAt points count i = true) : endIndexOf points i0 count = count := by
  have hnone : (List.range count).find? (fun i => decide (i0 ≤ i) && darkRunAt points count i) = none :=
    List.find?_range_eq_none.2 fun i _ => by simpa [Decidable.imp_iff_not_or] using h i
  rw [endIndexOf, hnone, Option.getD_none]

/-- A dark run from `i0` on is searched for and found, and the search takes the first. -/
theorem endIndexOf_first (h : ∃ i, i0 ≤ i ∧ darkRunAt points count i = true) :
    i0 ≤ endIndexOf points i0 count ∧ darkRunAt points count (endIndexOf points i0 count) = true ∧
      ∀ i, i0 ≤ i → darkRunAt points count i = true → endIndexOf points i0 count ≤ i := by
  obtain ⟨i, hi, hrun⟩ := h
  cases hfind : (List.range count).find? (fun i => decide (i0 ≤ i) && darkRunAt points count i) with
  | none =>
    have hi' := List.find?_range_eq_none.1 hfind i (by have := darkRunAt_fits hrun; omega)
    simp [hi, hrun] at hi'
  | some E =>
    obtain ⟨hE, -, hfirst⟩ := List.find?_range_eq_some.1 hfind
    rw [Bool.and_eq_true, decide_eq_true_eq] at hE
    rw [endIndexOf, hfind, Option.getD_some]
    refine ⟨hE.1, hE.2, fun n hn hdark => Nat.le_of_not_lt fun hlt => ?_⟩
    have hn' := hfirst n hlt
    simp [hn, hdark] at hn'

end

end Sys2Proof.Machine

open Sys2Proof
open Sys2Proof.Machine

/-- Settles O48, by one form of lg for both cases of R98: 256 times the place plus the nine bits from the highest on. -/
theorem levelsFollowTheMeanSignal : Obligations.LevelsFollowTheMeanSignal := by
  refine ⟨fun s e m => lg_eq, fun s t => lg_mono, ?_, fun k l f dark sum dark' sum' clip => convertPoint_of_mean f clip,
    fun code p ns => deadZoneEnd_ceil, fun g p => spacing_rounds p, distance_rounds, mdB_rounds⟩
  rintro k f dark sum clip p - - hsum rfl
  obtain ⟨hlow, hhigh⟩ := convertPoint_level_bounds (dark := dark) f clip hsum
  exact ⟨hlow, hhigh, rfl, convertPoint_below_iff f clip, convertPoint_level_of_le f clip,
    convertPoint_level_of_lt f clip⟩

/-- Settles O49: the model's test for a dark run is R103's, and the search takes the first that passes it. -/
theorem endIndexIsTheFirstDarkRun : Obligations.EndIndexIsTheFirstDarkRun := by
  rintro points i0 _ _ dark rfl hdark rfl
  have hrun : ∀ i, dark i ↔ darkRunAt points points.length i = true := fun i =>
    (hdark i).trans (darkRunAt_iff i).symm
  simp only [hrun]
  refine ⟨fun hex => ?_, endIndexOf_none⟩
  obtain ⟨hlow, hE, hfirst⟩ := endIndexOf_first hex
  exact ⟨hlow, hE, darkRunAt_fits hE, hfirst⟩
end

section
/-! SUPPORT. The terms of the analysis (chapter 7) met by the model's own loops: the bands that take part, the runs, the
band break, the smoothed deficit, and the step scan with its first onset. -/

namespace Sys2Proof.Machine

/-! ### The bands that take part (R109, R110) -/

theorem bandInput_eq_some_iff {sn : Snapshot} {trace : Option Trace} {view : Option View} {y : BandInput} :
    bandInput sn trace view = some y ↔ ∃ t k, trace = some t ∧ view = some (.valid k) ∧
      k.points = sn.points ∧ k.period = sn.period ∧ k.pulse = sn.pulse ∧ y = { live := t, base := k } := by
  rcases trace with _ | t
  · simp [bandInput]
  · rcases view with _ | _ | k
    · simp [bandInput]
    · simp [bandInput]
    · by_cases hk : k.points = sn.points ∧ k.period = sn.period ∧ k.pulse = sn.pulse
      · simp [bandInput, View.matchWith, hk, eq_comm]
      · have hnot : ¬ (View.valid k).matchWith sn = .matching := by simp [View.matchWith, hk]
        rw [bandInput, if_neg hnot]
        refine iff_of_false nofun ?_
        rintro ⟨_, _, -, ⟨⟩, hP, hp, hpulse, -⟩
        exact hk ⟨hP, hp, hpulse⟩

/-- The two bands' parts in the comparison, as the analysis forms them (R109). -/
def comparedBands (sn : Snapshot) (traces : PerBand (Option Trace)) (views : PerBand (Option View)) :
    PerBand (Option BandInput) :=
  ⟨bandInput sn traces.a views.a, bandInput sn traces.b views.b⟩

@[simp] theorem comparedBands_at (sn : Snapshot) (traces : PerBand (Option Trace)) (views : PerBand (Option View))
    (c : Band) : (comparedBands sn traces views).at c = bandInput sn (traces.at c) (views.at c) := by
  cases c <;> rfl

theorem PerBand.eq_of_at {α : Type} {x y : PerBand α} (h : ∀ c, x.at c = y.at c) : x = y := by
  obtain ⟨xa, xb⟩ := x
  obtain ⟨ya, yb⟩ := y
  have ha : xa = ya := h .A
  have hb : xb = yb := h .B
  rw [ha, hb]

/-- `b` is the primary band, and `main` its part in the comparison (R110). -/
def IsPrimary (x : PerBand (Option BandInput)) (b : Band) (main : BandInput) : Prop :=
  (b = .B ∨ (b = .A ∧ x.b = none)) ∧ x.at b = some main

theorem IsPrimary.primaryBand_eq {x : PerBand (Option BandInput)} {b : Band} {main : BandInput}
    (h : IsPrimary x b main) : primaryBand x = some b := by
  obtain ⟨rfl | ⟨rfl, hb⟩, hmain⟩ := h
  · have hmain : x.b = some main := hmain
    simp [primaryBand, hmain]
  · have hmain : x.a = some main := hmain
    simp [primaryBand, hb, hmain]

theorem exists_isPrimary {x : PerBand (Option BandInput)} (h : ¬ ∀ c, x.at c = none) :
    ∃ b main, IsPrimary x b main := by
  cases hb : x.b with
  | some main => exact ⟨.B, main, .inl rfl, hb⟩
  | none =>
    cases ha : x.a with
    | some main => exact ⟨.A, main, .inr ⟨rfl, hb⟩, ha⟩
    | none => exact absurd (fun c => match c with | .A => ha | .B => hb) h

/-! ### Runs (R113) -/

section
variable (x : BandInput) (sn : Snapshot)

theorem BandInput.runsAreMaximalStretches : x.RunsAreMaximalStretches sn := by
  obtain ⟨res, hres, hstretch, -, hrising⟩ := x.runs_spec sn
  refine ⟨?_, fun i hi => (x.mem_runs_points sn i).2 hi, hres ▸ List.pairwise_map.2 hrising⟩
  rw [hres]
  intro r hr
  obtain ⟨s, hs, rfl⟩ := List.mem_map.1 hr
  have hrefl : ∀ i ∈ (x.toRun s).points, x.isReflective sn i := fun i hi =>
    (x.mem_runs_points sn i).1 ⟨_, hres ▸ hr, hi⟩
  obtain ⟨a, n, hn, rfl, hlow, hhigh, -, hnext, hprev⟩ := hstretch s hs
  have hne : List.range' a n ≠ [] := by simp; omega
  obtain ⟨hheight, hmax⟩ := x.toRun_height _ hne
  refine ⟨a, n, hn, rfl, ?_, hrefl, ?_, ?_, hheight, hmax, by simp [BandInput.toRun]⟩
  · obtain ⟨m, rfl⟩ := Nat.exists_eq_succ_of_ne_zero (Nat.ne_of_gt hn)
    rfl
  · rintro ⟨-, hpoints, hlight, hreach⟩
    have hlight : a + n ≤ x.lightEnd + 7 := hlight
    exact of_decide_eq_false (hnext (by omega)) hreach
  · rintro j rfl ⟨hi0, -, -, hreach⟩
    exact of_decide_eq_false (hprev (by omega)) hreach

variable {x sn}

theorem BandInput.start_mem_points {r : ReflRun} (hr : r ∈ x.runs sn) : r.start ∈ r.points := by
  obtain ⟨a, n, hn, hpoints, hstart, -⟩ := (x.runsAreMaximalStretches sn).1 r hr
  rw [hpoints, hstart, List.mem_range'_1]
  omega

variable (x sn)

theorem BandInput.runs_start_rising : (x.runs sn).Pairwise (fun r q => r.start < q.start) :=
  (x.runsAreMaximalStretches sn).2.2.imp_of_mem fun hr hq hlt =>
    hlt _ (start_mem_points hr) _ (start_mem_points hq)

/-! ### The band break (R111) -/

theorem BandInput.bandBreak_eq_none_iff : x.bandBreak sn = none ↔ x.base.endIndex ≤ x.live.endIndex + 8 := by
  unfold BandInput.bandBreak
  split
  case isTrue h =>
    simp only [not_le.2 h, iff_false]
    split <;> simp
  case isFalse h => simpa using h

theorem BandInput.bandBreak_isSome_iff : (x.bandBreak sn).isSome = true ↔ x.live.endIndex + 8 < x.base.endIndex := by
  rw [Option.isSome_iff_ne_none, ne_eq, x.bandBreak_eq_none_iff sn, not_le]

/-- The search along the rising runs ends at the nearest of those it looks for. -/
theorem find?_eq_some_of_nearest {runs : List ReflRun} {p : ReflRun → Bool} {r : ReflRun}
    (hrising : runs.Pairwise (fun r q => r.start < q.start)) (hr : r ∈ runs) (hp : p r = true)
    (hnearest : ∀ q ∈ runs, p q = true → r.start ≤ q.start) : runs.find? p = some r := by
  induction hrising with
  | nil => cases hr
  | @cons q rest hq hrest ih =>
    rcases List.mem_cons.1 hr with rfl | hr'
    · exact List.find?_cons_of_pos hp
    · have hnot : ¬ p q = true := fun hpq => by
        have := hnearest q List.mem_cons_self hpq
        have := hq r hr'
        omega
      rw [List.find?_cons_of_neg hnot]
      exact ih hr' fun q' hq' => hnearest q' (List.mem_cons_of_mem _ hq')

theorem BandInput.breakLiesAtRunOrLiveEnd : x.BreakLiesAtRunOrLiveEnd sn := by
  refine ⟨x.bandBreak_eq_none_iff sn, fun k near hk hnear => ?_⟩
  have hshort : x.live.endIndex + 8 < x.base.endIndex := by
    rw [← not_le, ← x.bandBreak_eq_none_iff sn, hk]
    exact Option.some_ne_none k
  rw [BandInput.bandBreak, if_pos hshort] at hk
  constructor
  · intro r hr hfirst
    obtain ⟨hmem, hlow, hhigh⟩ := (hnear r).1 hr
    rw [find?_eq_some_of_nearest (x.runs_start_rising sn) hmem (by simp [hlow, hhigh])
      fun q hq hp => hfirst q ((hnear q).2 ⟨hq, by simpa using hp⟩)] at hk
    exact (Option.some.inj hk).symm
  · intro hno
    rw [List.find?_eq_none.2 fun r hr hp => hno r ((hnear r).2 ⟨hr, by simpa using hp⟩)] at hk
    exact (Option.some.inj hk).symm

/-! ### The smoothed deficit (R115, R116) -/

/-- Deficits that hold over masked points are the model's deficits (R115). -/
theorem BandInput.deficits_eq {dv : Nat → Int}
    (hdv : ∀ i, sn.i0 ≤ i → (¬ x.isMasked sn i → dv i = -(x.rv i)) ∧
      (x.isMasked sn i → dv i = if i = sn.i0 then 0 else dv (i - 1))) (limit : Nat) :
    x.deficits sn limit = (List.range' sn.i0 (limit - sn.i0)).map dv := by
  refine heldDeficits_range' _ _ dv _ _ _ fun i hi => ?_
  by_cases hm : x.isMasked sn i
  · rw [if_pos ((x.masked_iff sn i).2 hm), (hdv i hi).2 hm]
  · rw [if_neg (mt (x.masked_iff sn i).1 hm), (hdv i hi).1 hm]
    rfl

theorem BandInput.smoothedDeficitIsHeldMean (brk : Option BreakAt) : x.SmoothedDeficitIsHeldMean sn brk := by
  intro dv hdv i
  rw [BandInput.smoothedAt, smoothed, x.deficits_eq sn hdv, x.scanLimit_eq]
  split
  case isTrue h =>
    obtain ⟨hlow, hfits⟩ := h
    have hwindow : ((List.range' sn.i0 (x.limitBefore brk - sn.i0)).drop (i - sn.i0)).take sn.smoothing =
        (List.range sn.smoothing).map (i + ·) := by
      refine List.ext_getElem (by simp; omega) fun j _ _ => ?_
      simp only [List.getElem_take, List.getElem_drop, List.getElem_range', List.getElem_map, List.getElem_range]
      omega
    rw [← List.map_drop, ← List.map_take, hwindow, List.map_map]
    rfl
  case isFalse => rfl

variable {x sn}

/-- The smoothed deficit is defined only where its window lies below the scan limit (R116). -/
theorem BandInput.fits_of_smoothedAt {brk : Option BreakAt} {i : Nat} {v : Int}
    (h : x.smoothedAt sn brk i = some v) : sn.i0 ≤ i ∧ i + sn.smoothing ≤ x.scanLimit brk := by
  rw [BandInput.smoothedAt, smoothed] at h
  split at h
  case isTrue hfits => exact hfits
  case isFalse => cases h

end

/-! ### The step scan (R117) -/

section
variable {ds : Nat → Option Int} {sn : Snapshot}

/-- At a confirming stretch the scan takes a step (R117). -/
theorem stepScan_take {o : Nat} {ref v : Int} (m : Nat) (hconf : confirmed ds sn ref o = true)
    (hv : ds (o + sn.confirmLength - 1) = some v) :
    stepScan ds sn (m + 1) o ref =
      { location := o + (sn.smoothing - 1) / 2, lossPoint := o + sn.confirmLength - 1, loss := v - ref } ::
        stepScan ds sn m (o + sn.confirmLength) v := by
  rw [stepScan, if_pos hconf, hv]
  rfl

theorem scanTakesTheFirstOnset (hC : 1 ≤ sn.confirmLength) : ScanTakesTheFirstOnset sn := by
  intro ds n o ref onset hend honset
  have hconf : ∀ a, o ≤ a → (confirmed ds sn ref a = true ↔ onset a) := fun a ha => by
    rw [confirmed_iff, honset, and_iff_right ha]
  constructor
  · intro hno
    exact stepScan_none ds sn n o ref fun a ha => by simpa using mt (hconf a ha).1 (hno a)
  · intro a v ha hfirst hv
    obtain ⟨hlow, hstretch⟩ := (honset a).1 ha
    have hlt : a < o + n := by
      obtain ⟨w, hw, -⟩ := hstretch 0 hC
      by_contra hge
      rw [hend (a + 0) (by omega)] at hw
      cases hw
    refine ⟨o + n - a - 1, fun i hi => hend i (by omega), ?_⟩
    have hskip := stepScan_skip ds sn (a - o) (o + n - a - 1 + 1) o ref fun b hb hlt' => by
      have := mt (hfirst b) (by omega)
      simpa using mt (hconf b hb).1 this
    rw [show o + n - a - 1 + 1 + (a - o) = n by omega, Nat.add_sub_of_le hlow] at hskip
    rw [hskip, stepScan_take _ ((hconf a hlow).2 ha) hv]

theorem BandInput.stepsAreScannedFromI0 (x : BandInput) (hW : 1 ≤ sn.smoothing) (brk : Option BreakAt) :
    x.StepsAreScannedFromI0 sn brk := by
  refine ⟨fun h => by rw [BandInput.steps, h], fun ref h =>
    ⟨x.scanLimit brk, fun i hi => ?_, by rw [BandInput.steps, h]⟩⟩
  by_contra hne
  obtain ⟨v, hv⟩ := Option.ne_none_iff_exists'.1 hne
  have := fits_of_smoothedAt hv
  omega

/-- Every step of the scan stands on a confirming stretch at or beyond the scan position (R117). -/
theorem mem_stepScan {st : ScanStep} {n o : Nat} {ref : Int} (h : st ∈ stepScan ds sn n o ref) :
    ∃ a ref', o ≤ a ∧ confirmed ds sn ref' a = true ∧ st.location = a + (sn.smoothing - 1) / 2 ∧
      st.lossPoint = a + sn.confirmLength - 1 := by
  induction n generalizing o ref with
  | zero => cases h
  | succ n ih =>
    rw [stepScan] at h
    split at h
    case isTrue hconf =>
      rcases List.mem_cons.1 h with rfl | h
      · exact ⟨o, ref, Nat.le_refl o, hconf, rfl, rfl⟩
      · obtain ⟨a, ref', ha, hrest⟩ := ih h
        exact ⟨a, ref', by omega, hrest⟩
    case isFalse =>
      obtain ⟨a, ref', ha, hrest⟩ := ih h
      exact ⟨a, ref', by omega, hrest⟩

theorem stepScan_location_rising (hC : 1 ≤ sn.confirmLength) (n o : Nat) (ref : Int) :
    (stepScan ds sn n o ref).Pairwise (fun st st' => st.location < st'.location) := by
  induction n generalizing o ref with
  | zero => exact .nil
  | succ n ih =>
    rw [stepScan]
    split
    · refine List.pairwise_cons.2 ⟨fun st hst => ?_, ih _ _⟩
      obtain ⟨a, ref', ha, -, hloc, -⟩ := mem_stepScan hst
      dsimp only
      omega
    · exact ih _ _

variable {x : BandInput} {brk : Option BreakAt}

theorem BandInput.steps_location_rising (hC : 1 ≤ sn.confirmLength) :
    (x.steps sn brk).Pairwise (fun st st' => st.location < st'.location) := by
  unfold BandInput.steps
  split
  · exact .nil
  · exact stepScan_location_rising hC ..

/-- A step lies below the scan limit: its smoothed deficit at the loss point is defined (R116, R117). -/
theorem BandInput.step_location_lt (hC : 1 ≤ sn.confirmLength) (hW : 1 ≤ sn.smoothing) {st : ScanStep}
    (h : st ∈ x.steps sn brk) : st.location < x.scanLimit brk := by
  unfold BandInput.steps at h
  split at h
  case h_1 => cases h
  case h_2 ref _ =>
    obtain ⟨a, ref', -, hconf, hloc, -⟩ := mem_stepScan h
    obtain ⟨v, hv, -⟩ := (confirmed_iff ..).1 hconf 0 hC
    have := fits_of_smoothedAt hv
    omega

end

end Sys2Proof.Machine
end

section
/-! SUPPORT. The findings list (R112, R114, R118 to R124): which runs are reported, how a step is weighed, the list
before the limit of eight and its order, and the entries a CONFIRM reclassifies. -/

namespace Sys2Proof.Machine

/-! ### The runs reported (R114) -/

section
variable {sn : Snapshot} {primary other : List ReflRun} {brk : Option BreakAt}

theorem ReflRun.meets_iff (r q : ReflRun) : r.meets q = true ↔ ∃ i ∈ r.points, i ∈ q.points := by
  simp [ReflRun.meets]

theorem BreakAt.hides_iff (k : BreakAt) (q : ReflRun) : k.hides q = true ↔ q.isHidden (some k) := by
  obtain ⟨location, _ | own⟩ := k <;> simp [BreakAt.hides, ReflRun.isHidden, ReflRun.meets_iff]

theorem mem_reportedRuns (q : ReflRun) :
    q ∈ reportedRuns primary other brk ↔
      ¬ q.isHidden brk ∧ (q ∈ primary ∨ q ∈ other ∧ ∀ m ∈ primary, ∀ i ∈ q.points, i ∉ m.points) := by
  have hmeets : primary.any (fun m => q.meets m) = false ↔ ∀ m ∈ primary, ∀ i ∈ q.points, i ∉ m.points := by
    simp [← Bool.not_eq_true, ReflRun.meets_iff]
  cases brk with
  | none =>
    have hshown : ¬ q.isHidden none := by rintro ⟨k, hk, -⟩; cases hk
    simp [reportedRuns, hshown, ← hmeets]
  | some k =>
    simp only [reportedRuns, List.mem_append, List.mem_filter, Bool.and_eq_true, Bool.not_eq_true', hmeets,
      ← k.hides_iff, Bool.not_eq_true]
    tauto

/-- Two reported runs never share a start: the other band's meet no run of the primary band (R114, R121). -/
theorem reportedRuns_start_ne {x y : List ReflRun} (hx : x.Pairwise (fun r q => r.start < q.start))
    (hy : y.Pairwise (fun r q => r.start < q.start)) (hxs : ∀ r ∈ x, r.start ∈ r.points)
    (hys : ∀ r ∈ y, r.start ∈ r.points) (brk : Option BreakAt) :
    (reportedRuns x y brk).Pairwise (fun r q => r.start ≠ q.start) := by
  refine List.pairwise_append.2 ⟨(hx.imp Nat.ne_of_lt).filter _, (hy.imp Nat.ne_of_lt).filter _, ?_⟩
  intro r hr q hq heq
  obtain ⟨hr, -⟩ := List.mem_filter.1 hr
  obtain ⟨hq, hfree⟩ := List.mem_filter.1 hq
  have hmeets : x.any (fun m => q.meets m) = true :=
    List.any_eq_true.2 ⟨r, hr, (q.meets_iff r).2 ⟨q.start, hys q hq, heq ▸ hxs r hr⟩⟩
  simp [hmeets] at hfree

end

/-! ### The weighing (R118, R119, R124) -/

section
variable {sn : Snapshot} {y : BandInput} {brk : Option BreakAt}

theorem BandInput.lossAt_eq_some_iff {lp : Nat} {l : Int} :
    y.lossAt sn brk lp = some l ↔
      ∃ ref v, y.smoothedAt sn brk sn.i0 = some ref ∧ y.smoothedAt sn brk lp = some v ∧ l = mdB (v - ref) := by
  unfold BandInput.lossAt
  cases y.smoothedAt sn brk sn.i0 <;> cases y.smoothedAt sn brk lp <;> simp [eq_comm]

theorem BandInput.lossAt_eq_none_iff {lp : Nat} :
    y.lossAt sn brk lp = none ↔ y.smoothedAt sn brk sn.i0 = none ∨ y.smoothedAt sn brk lp = none := by
  unfold BandInput.lossAt
  cases y.smoothedAt sn brk sn.i0 <;> cases y.smoothedAt sn brk lp <;> simp

variable {x : PerBand (Option BandInput)} {st : ScanStep}

theorem classify_of_read {l : Int} (hy : x.a = some y) (hl : y.lossAt sn brk st.lossPoint = some l) :
    classify sn x .B brk st = (weigh sn (mdB st.loss) l, .both) := by
  simp [classify, hy, hl]

theorem classify_of_unread (h : ∀ y, x.a = some y → y.lossAt sn brk st.lossPoint = none) :
    classify sn x .B brk st = (.step, .bOnly) := by
  have hread : x.a.bind (fun y => y.lossAt sn brk st.lossPoint) = none := Option.bind_eq_none_iff.2 h
  simp [classify, hread]

/-- The kind and the bands evaluated of a step are those of R118 and R119, and these determine them. -/
theorem classify_eq_iff (b : Band) (kind : FaultKind) (bands : BandsEval) :
    classify sn x b brk st = (kind, bands) ↔ (b = .A → kind = .step ∧ bands = .aOnly) ∧
      (b = .B →
        (∀ y ref v, x.a = some y → y.smoothedAt sn brk sn.i0 = some ref → y.smoothedAt sn brk st.lossPoint = some v →
          kind = (if (sn.bendMargin : Int) ≤ mdB st.loss - mdB (v - ref) then .bend else .step) ∧ bands = .both) ∧
        ((∀ y, x.a = some y → y.smoothedAt sn brk sn.i0 = none ∨ y.smoothedAt sn brk st.lossPoint = none) →
          kind = .step ∧ bands = .bOnly)) := by
  cases b with
  | A => simp [classify, eq_comm]
  | B =>
    by_cases hunread : ∀ y, x.a = some y → y.lossAt sn brk st.lossPoint = none
    · rw [classify_of_unread hunread]
      simp only [BandInput.lossAt_eq_none_iff] at hunread
      constructor
      · rintro ⟨⟩
        refine ⟨nofun, fun _ => ⟨fun y ref v hy href hv => ?_, fun _ => ⟨rfl, rfl⟩⟩⟩
        have := hunread y hy
        simp [href, hv] at this
      · rintro ⟨-, hB⟩
        obtain ⟨rfl, rfl⟩ := (hB rfl).2 hunread
        rfl
    · push Not at hunread
      obtain ⟨y, hy, hl⟩ := hunread
      obtain ⟨l, hl⟩ := Option.ne_none_iff_exists'.1 hl
      rw [classify_of_read hy hl]
      obtain ⟨ref, v, href, hv, rfl⟩ := BandInput.lossAt_eq_some_iff.1 hl
      constructor
      · rintro ⟨⟩
        refine ⟨nofun, fun _ => ⟨fun y' ref' v' hy' href' hv' => ?_, fun hno => ?_⟩⟩
        · cases hy.symm.trans hy'
          cases href.symm.trans href'
          cases hv.symm.trans hv'
          exact ⟨rfl, rfl⟩
        · have := hno y hy
          simp [href, hv] at this
      · rintro ⟨-, hB⟩
        obtain ⟨rfl, rfl⟩ := (hB rfl).1 y ref v hy href hv
        rfl

theorem isStepFinding_iff (b : Band) (g : Finding) :
    IsStepFinding sn x b brk st g ↔ g = stepFinding sn x b brk st := by
  simp only [IsStepFinding, ← classify_eq_iff]
  constructor
  · rintro ⟨kind, bands, rfl, hclass⟩
    simp [stepFinding, hclass]
  · rintro rfl
    exact ⟨_, _, rfl, rfl⟩

theorem stepFinding_kind (sn : Snapshot) (x : PerBand (Option BandInput)) (b : Band) (brk : Option BreakAt)
    (st : ScanStep) : (stepFinding sn x b brk st).kind = .step ∨ (stepFinding sn x b brk st).kind = .bend := by
  show (classify sn x b brk st).1 = .step ∨ (classify sn x b brk st).1 = .bend
  unfold classify weigh
  split
  · exact .inl rfl
  · split
    · dsimp only
      split <;> simp
    · exact .inl rfl

theorem reclassified_eq_some_iff {p : PortNo} {e : FaultEntry} {i : Nat} {k : FaultKind} :
    reclassified sn p y brk e = some (i, k) ↔ e.id = i ∧ e.port = p ∧ e.det.kind = .step ∧
      e.det.bands = some .bOnly ∧ e.spacing = sn.spacing ∧ ∃ lp loss ref v, e.det.lossPoint = some lp ∧
        e.det.loss = some loss ∧ y.smoothedAt sn brk sn.i0 = some ref ∧ y.smoothedAt sn brk lp = some v ∧
        k = (if (sn.bendMargin : Int) ≤ loss - mdB (v - ref) then .bend else .step) := by
  constructor
  · intro h
    unfold reclassified at h
    split at h
    case isFalse => cases h
    case isTrue hnamed =>
      split at h
      case h_2 => cases h
      case h_1 lp loss hlp hloss =>
        obtain ⟨l, hl, heq⟩ := Option.map_eq_some_iff.1 h
        obtain ⟨ref, v, href, hv, rfl⟩ := BandInput.lossAt_eq_some_iff.1 hl
        cases heq
        obtain ⟨hp, hk, hb, hs⟩ := hnamed
        exact ⟨rfl, hp, hk, hb, hs, lp, loss, ref, v, hlp, hloss, href, hv, rfl⟩
  · rintro ⟨rfl, hp, hk, hb, hs, lp, loss, ref, v, hlp, hloss, href, hv, rfl⟩
    have hl : y.lossAt sn brk lp = some (mdB (v - ref)) := BandInput.lossAt_eq_some_iff.2 ⟨ref, v, href, hv, rfl⟩
    simp [reclassified, hp, hk, hb, hs, hlp, hloss, hl, weigh]

end

/-! ### The list before the limit (R121) -/

section
variable (sn : Snapshot) (kind : Kind) (x : PerBand (Option BandInput)) (b : Band) (main : BandInput)

/-- The runs of the band that is not primary; none where it takes no part (R110, R114). -/
def otherRuns : List ReflRun := ((x.at b.other).map (fun y => y.runs sn)).getD []

/-- The steps sought on the primary band; a CONFIRM seeks none (R115, R123). -/
def soughtSteps : List ScanStep := if kind = .confirm then [] else main.steps sn (testBreak sn x b)

/-- The REFLECTION, STEP and BEND findings before they are placed by location (R121). -/
def unplacedFindings : List Finding :=
  (reportedRuns (main.runs sn) (otherRuns sn x b) (testBreak sn x b)).map (reflectionFinding sn) ++
    (soughtSteps sn kind x b main).map (stepFinding sn x b (testBreak sn x b))

theorem allFindings_eq : allFindings sn kind x b main =
    ((testBreak sn x b).map (breakFinding sn)).toList ++ orderFindings (unplacedFindings sn kind x b main) := by
  unfold allFindings unplacedFindings otherRuns soughtSteps
  cases testBreak sn x b <;> cases x.at b.other <;> by_cases hk : kind = .confirm <;> simp [hk]

variable {sn kind x b main}

theorem mem_otherRuns {q : ReflRun} : q ∈ otherRuns sn x b ↔ ∃ y, x.at b.other = some y ∧ q ∈ y.runs sn := by
  unfold otherRuns
  cases x.at b.other <;> simp

theorem otherRuns_start_rising : (otherRuns sn x b).Pairwise (fun r q => r.start < q.start) := by
  unfold otherRuns
  cases x.at b.other with
  | none => exact .nil
  | some y => exact y.runs_start_rising sn

theorem mem_soughtSteps {st : ScanStep} :
    st ∈ soughtSteps sn kind x b main ↔ kind ≠ .confirm ∧ st ∈ main.steps sn (testBreak sn x b) := by
  by_cases hk : kind = .confirm <;> simp [soughtSteps, hk]

theorem soughtSteps_location_rising (hC : 1 ≤ sn.confirmLength) :
    (soughtSteps sn kind x b main).Pairwise (fun st st' => st.location < st'.location) := by
  unfold soughtSteps
  split
  · exact .nil
  · exact BandInput.steps_location_rising hC

theorem mem_unplacedFindings {g : Finding} : g ∈ unplacedFindings sn kind x b main ↔
    (∃ q ∈ reportedRuns (main.runs sn) (otherRuns sn x b) (testBreak sn x b), reflectionFinding sn q = g) ∨
      ∃ st ∈ soughtSteps sn kind x b main, stepFinding sn x b (testBreak sn x b) st = g := by
  simp [unplacedFindings]

theorem mem_allFindings {g : Finding} : g ∈ allFindings sn kind x b main ↔
    (∃ k, testBreak sn x b = some k ∧ g = breakFinding sn k) ∨ g ∈ unplacedFindings sn kind x b main := by
  rw [allFindings_eq, List.mem_append, mem_orderFindings]
  cases testBreak sn x b <;> simp

theorem kind_ne_brk_of_mem_unplaced {g : Finding} (hg : g ∈ unplacedFindings sn kind x b main) : g.kind ≠ .brk := by
  rcases mem_unplacedFindings.1 hg with ⟨q, -, rfl⟩ | ⟨st, -, rfl⟩
  · exact nofun
  · rcases stepFinding_kind sn x b (testBreak sn x b) st with h | h <;> simp [h]

/-- Two findings at one location are a reflection and a step (R121). -/
theorem unplacedFindings_ties (hC : 1 ≤ sn.confirmLength) : (unplacedFindings sn kind x b main).Pairwise
    (fun g h => g.location = h.location → g.kind = .reflection ∧ h.kind ≠ .reflection) := by
  refine List.pairwise_append.2 ⟨List.pairwise_map.2 ?_, List.pairwise_map.2 ?_, ?_⟩
  · refine (reportedRuns_start_ne (main.runs_start_rising sn) otherRuns_start_rising
      (fun r hr => BandInput.start_mem_points hr) (fun r hr => ?_) _).imp fun hne heq => absurd heq hne
    obtain ⟨y, -, hr⟩ := mem_otherRuns.1 hr
    exact BandInput.start_mem_points hr
  · exact (soughtSteps_location_rising hC).imp fun hlt heq => absurd heq (Nat.ne_of_lt hlt)
  · intro g hg h hh _
    obtain ⟨q, -, rfl⟩ := List.mem_map.1 hg
    obtain ⟨st, -, rfl⟩ := List.mem_map.1 hh
    refine ⟨rfl, ?_⟩
    rcases stepFinding_kind sn x b (testBreak sn x b) st with hk | hk <;> simp [hk]

theorem placedFindings_precede (hC : 1 ≤ sn.confirmLength) :
    (orderFindings (unplacedFindings sn kind x b main)).Pairwise Finding.precedes :=
  (orderFindings_pairwise (fun g h => g.kind = .reflection ∧ h.kind ≠ .reflection) _
    (unplacedFindings_ties hC)).imp_of_mem fun _ hh hgh =>
      ⟨kind_ne_brk_of_mem_unplaced ((mem_orderFindings _ _).1 hh), .inr hgh⟩

theorem allFindings_precede (hC : 1 ≤ sn.confirmLength) :
    (allFindings sn kind x b main).Pairwise Finding.precedes := by
  rw [allFindings_eq]
  refine List.pairwise_append.2 ⟨?_, placedFindings_precede hC, ?_⟩
  · cases testBreak sn x b <;> simp
  · intro g hg h hh
    obtain ⟨k, -, rfl⟩ := Option.map_eq_some_iff.1 (Option.mem_toList.1 hg)
    exact ⟨kind_ne_brk_of_mem_unplaced ((mem_orderFindings _ _).1 hh), .inl rfl⟩

theorem placedFindings_location_rising :
    (orderFindings (unplacedFindings sn kind x b main)).Pairwise (fun g h => g.location ≤ h.location) :=
  (orderFindings_pairwise (fun _ _ => True) _ (List.pairwise_of_forall fun _ _ _ => trivial)).imp fun hgh =>
    hgh.elim Nat.le_of_lt fun heq => Nat.le_of_eq heq.1

/-- Behind a break stand only findings nearer than it (R114, R117, R121). -/
theorem location_lt_of_break (hC : 1 ≤ sn.confirmLength) (hW : 1 ≤ sn.smoothing) {k : BreakAt}
    (hk : testBreak sn x b = some k) {g : Finding} (hg : g ∈ unplacedFindings sn kind x b main) :
    g.location < k.location := by
  rcases mem_unplacedFindings.1 hg with ⟨q, hq, rfl⟩ | ⟨st, hst, rfl⟩
  · have hshown := ((mem_reportedRuns q).1 hq).1
    exact Nat.lt_of_not_le fun hle => hshown ⟨k, hk, .inl hle⟩
  · have hlt := BandInput.step_location_lt hC hW (mem_soughtSteps.1 hst).2
    rw [hk] at hlt
    exact Nat.lt_of_lt_of_le hlt (Nat.min_le_right _ _)

theorem findings_of_break (hC : 1 ≤ sn.confirmLength) (hW : 1 ≤ sn.smoothing) {k : BreakAt}
    (hk : testBreak sn x b = some k) :
    ∃ rest, (allFindings sn kind x b main).take 8 = breakFinding sn k :: rest ∧
      (∀ g ∈ rest, g.kind ≠ .brk ∧ g.location < k.location) ∧
      rest.Pairwise (fun g h => g.location ≤ h.location) := by
  refine ⟨(orderFindings (unplacedFindings sn kind x b main)).take 7, by rw [allFindings_eq, hk]; rfl, fun g hg => ?_,
    placedFindings_location_rising.take⟩
  have hg := (mem_orderFindings _ _).1 (List.mem_of_mem_take hg)
  exact ⟨kind_ne_brk_of_mem_unplaced hg, location_lt_of_break hC hW hk hg⟩

theorem findings_of_no_break (hk : testBreak sn x b = none) :
    (∀ g ∈ (allFindings sn kind x b main).take 8, g.kind ≠ .brk) ∧
      ((allFindings sn kind x b main).take 8).Pairwise (fun g h => g.location ≤ h.location) := by
  have hall : allFindings sn kind x b main = orderFindings (unplacedFindings sn kind x b main) := by
    rw [allFindings_eq, hk]
    rfl
  rw [hall]
  exact ⟨fun g hg => kind_ne_brk_of_mem_unplaced ((mem_orderFindings _ _).1 (List.mem_of_mem_take hg)),
    placedFindings_location_rising.take⟩

/-- A CONFIRM seeks no steps (R115, R123). -/
theorem kind_of_mem_allFindings_confirm {g : Finding} (hg : g ∈ allFindings sn .confirm x b main) :
    g.kind = .brk ∨ g.kind = .reflection := by
  rcases mem_allFindings.1 hg with ⟨k, -, rfl⟩ | hg
  · exact .inl rfl
  · rcases mem_unplacedFindings.1 hg with ⟨q, -, rfl⟩ | ⟨st, hst, -⟩
    · exact .inr rfl
    · exact absurd rfl (mem_soughtSteps.1 hst).1

/-- The findings before the limit of eight: the break, the runs that are reported, and the steps weighed against band A
(R112, R114, R118). -/
theorem mem_allFindings_iff {brk : Option BreakAt} (hbrk : brk = testBreak sn x b) (g : Finding) :
    g ∈ allFindings sn kind x b main ↔
      (∃ k, brk = some k ∧ g = breakFinding sn k) ∨
      (∃ q, ¬ q.isHidden brk ∧
        (q ∈ main.runs sn ∨ ∃ y, x.at b.other = some y ∧ q ∈ y.runs sn ∧
          ∀ m ∈ main.runs sn, ∀ i ∈ q.points, i ∉ m.points) ∧ g = reflectionFinding sn q) ∨
      (kind ≠ .confirm ∧ ∃ st ∈ main.steps sn brk, IsStepFinding sn x b brk st g) := by
  subst hbrk
  have hother : ∀ q, (q ∈ otherRuns sn x b ∧ ∀ m ∈ main.runs sn, ∀ i ∈ q.points, i ∉ m.points) ↔
      ∃ y, x.at b.other = some y ∧ q ∈ y.runs sn ∧ ∀ m ∈ main.runs sn, ∀ i ∈ q.points, i ∉ m.points := fun q => by
    simp only [mem_otherRuns, exists_and_right, ← and_assoc]
  simp only [mem_allFindings, mem_unplacedFindings, mem_reportedRuns, hother, mem_soughtSteps, isStepFinding_iff,
    and_assoc, exists_and_left, eq_comm (b := g)]

end

/-! ### The report (R110, R122) -/

section
variable {sn : Snapshot} {kind : Kind} {p : PortNo} {traces : PerBand (Option Trace)} {views : PerBand (Option View)}
  {table : List FaultEntry} {x : PerBand (Option BandInput)} (hx : x = comparedBands sn traces views)

theorem analyse_baselines_at (c : Band) :
    (analyse sn kind p traces views table).baselines.at c = (views.at c).map (fun v => v.matchWith sn) := by
  unfold analyse
  dsimp only
  split
  · cases c <;> rfl
  · split <;> cases c <;> rfl

include hx

theorem analyse_of_uncompared (h : ∀ c, x.at c = none) : analyse sn kind p traces views table =
    { Report.none with baselines := (analyse sn kind p traces views table).baselines } := by
  subst hx
  have ha : bandInput sn traces.a views.a = none := h .A
  have hb : bandInput sn traces.b views.b = none := h .B
  simp [analyse, primaryBand, ha, hb]

theorem analyse_of_primary {b : Band} {main : BandInput} (h : IsPrimary x b main) {brk : Option BreakAt}
    (hbrk : brk = testBreak sn x b) {all : List Finding} (hall : all = allFindings sn kind x b main) :
    analyse sn kind p traces views table =
      { baselines := (analyse sn kind p traces views table).baselines
        findings := all.take 8
        more := decide (8 < all.length)
        missCount := decide (kind ≠ .confirm)
        limit := analysedLimit main brk
        hasBreak := brk.isSome
        reclass := if kind = .confirm then table.filterMap (reclassified sn p main brk) else [] } := by
  subst hx hbrk hall
  have hprimary := h.primaryBand_eq
  have hmain := h.2
  unfold comparedBands at *
  simp only [analyse, hprimary, hmain]
  rfl

theorem uncompared_of_unmatched
    (h : ∀ c v, views.at c = some v → v.matchWith sn = .matching → traces.at c = none) (c : Band) : x.at c = none := by
  rw [Option.eq_none_iff_forall_ne_some]
  intro y hy
  rw [hx, comparedBands_at, bandInput_eq_some_iff] at hy
  obtain ⟨t, k, ht, hk, hP, hp, hpulse, -⟩ := hy
  have hmatch : (View.valid k).matchWith sn = .matching := if_pos ⟨hP, hp, hpulse⟩
  rw [h c _ hk hmatch] at ht
  cases ht

end

theorem eq_comparedBands {sn : Snapshot} {traces : PerBand (Option Trace)} {views : PerBand (Option View)}
    {x : PerBand (Option BandInput)}
    (hx : ∀ c y, x.at c = some y ↔ ∃ t k, traces.at c = some t ∧ views.at c = some (.valid k) ∧
      k.points = sn.points ∧ k.period = sn.period ∧ k.pulse = sn.pulse ∧ y = { live := t, base := k }) :
    x = comparedBands sn traces views :=
  PerBand.eq_of_at fun c => Option.ext fun y => by rw [hx, comparedBands_at, bandInput_eq_some_iff]

section
variable {sn : Snapshot} {x : PerBand (Option BandInput)} {b : Band} {main : BandInput} (h : IsPrimary x b main)
include h

theorem IsPrimary.testBreak_of_some {k : BreakAt} (hk : main.bandBreak sn = some k) : testBreak sn x b = some k := by
  have hown : breakOf sn x b = some k := by rw [breakOf, h.2, Option.bind_some, hk]
  rw [testBreak, hown]

theorem IsPrimary.testBreak_of_none (hk : main.bandBreak sn = none) :
    testBreak sn x b = (x.at b.other).bind (fun y => y.bandBreak sn) := by
  have hown : breakOf sn x b = none := by rw [breakOf, h.2, Option.bind_some, hk]
  rw [testBreak, hown]
  rfl

end

/-- The findings of every report: at most eight, the break first, the others by location, and no steps of a CONFIRM
(R112, R121, R123). -/
theorem analyse_form {sn : Snapshot} {kind : Kind} {p : PortNo} {traces : PerBand (Option Trace)}
    {views : PerBand (Option View)} {table : List FaultEntry} {r : Report} (hW : 1 ≤ sn.smoothing)
    (hC : 1 ≤ sn.confirmLength) (hr : r = analyse sn kind p traces views table) :
    r.findings.length ≤ 8 ∧ (r.more = true → r.findings.length = 8) ∧
    (r.hasBreak = true → ∃ f rest, r.findings = f :: rest ∧ f.kind = .brk ∧ f.location = r.limit ∧
      (∀ g ∈ rest, g.kind ≠ .brk ∧ g.location < r.limit) ∧
      rest.Pairwise (fun g h => g.location ≤ h.location)) ∧
    (r.hasBreak = false → (∀ g ∈ r.findings, g.kind ≠ .brk) ∧
      r.findings.Pairwise (fun g h => g.location ≤ h.location)) ∧
    (kind = .confirm → r.missCount = false ∧ ∀ g ∈ r.findings, g.kind = .brk ∨ g.kind = .reflection) ∧
    (kind ≠ .confirm → r.reclass = []) := by
  by_cases hnone : ∀ c, (comparedBands sn traces views).at c = none
  · rw [hr, analyse_of_uncompared rfl hnone]
    simp [Report.none]
  · obtain ⟨b, main, h⟩ := exists_isPrimary hnone
    rw [hr, analyse_of_primary rfl h rfl rfl]
    dsimp only
    refine ⟨List.length_take_le _ _, fun hmore => ?_, fun hbreak => ?_, fun hbreak => ?_, ?_, fun hk => if_neg hk⟩
    · exact List.length_take_of_le (Nat.le_of_lt (of_decide_eq_true hmore))
    · obtain ⟨k, hk⟩ := Option.isSome_iff_exists.1 hbreak
      obtain ⟨rest, hrest, hnear, hrising⟩ := findings_of_break hC hW hk
      rw [hk]
      exact ⟨_, rest, hrest, rfl, rfl, hnear, hrising⟩
    · exact findings_of_no_break (by simpa using hbreak)
    · rintro rfl
      exact ⟨rfl, fun g hg => kind_of_mem_allFindings_confirm (List.mem_of_mem_take hg)⟩

end Sys2Proof.Machine

open Sys2Proof
open Sys2Proof.Machine

/-- Settles O50: with no band compared the report is empty; otherwise its list is that of `allFindings`, whose findings
are those of R112, R114 and R118, placed by location. -/
theorem findingsListHasItsForm : Obligations.FindingsListHasItsForm := by
  intro sn kind p traces views table r hW hC hr
  obtain ⟨hlength, hmore, hbreak, hnoBreak, hconfirm, hother⟩ := analyse_form hW hC hr
  refine ⟨fun b => hr ▸ analyse_baselines_at b, fun hunmatched => ?_, hlength, hmore, hbreak, hnoBreak, hconfirm,
    hother, fun x => x.bandBreak_isSome_iff sn, fun x brk => ⟨x.runsAreMaximalStretches sn, x.breakLiesAtRunOrLiveEnd sn,
      x.smoothedDeficitIsHeldMean sn brk, x.stepsAreScannedFromI0 hW brk⟩, scanTakesTheFirstOnset hC, ?_⟩
  · rw [hr, analyse_of_uncompared rfl (uncompared_of_unmatched rfl hunmatched)]
    exact ⟨rfl, rfl, rfl, rfl, rfl⟩
  · intro x b main brk hx hb hmain hbrk
    have hprimary : IsPrimary x b main := ⟨hb, hmain⟩
    have htest : brk = testBreak sn x b := by
      rw [hbrk]
      cases hown : main.bandBreak sn with
      | some k => exact (hprimary.testBreak_of_some hown).symm
      | none => exact (hprimary.testBreak_of_none hown).symm
    rw [hr, analyse_of_primary (eq_comparedBands hx) hprimary htest rfl]
    refine ⟨rfl, rfl, by cases brk <;> rfl, ⟨allFindings sn kind x b main, rfl, decide_eq_true_iff,
      allFindings_precede hC, mem_allFindings_iff htest⟩, fun hkind i k => ?_⟩
    rw [if_pos hkind, List.mem_filterMap]
    simp only [reclassified_eq_some_iff]
end

section
/-! SUPPORT. The fold of a test (8.2 to 8.4) stage by stage: which entry a finding re-finds, what a new entry displaces
and which id it gets, and what a miss and a reclassification make of each entry. -/

namespace Sys2Proof.Machine

/-! ### The match (R130) -/

theorem sameClass_iff (a b : FaultKind) :
    sameClass a b = true ↔ a = b ∨ (a = .step ∧ b = .bend) ∨ (a = .bend ∧ b = .step) := by
  cases a <;> cases b <;> decide

theorem distanceDiff_le_iff (a b n : Nat) : distanceDiff a b ≤ n ↔ a ≤ b + n ∧ b ≤ a + n := by
  unfold distanceDiff
  omega

theorem isCandidate_iff (p : PortNo) (matchDistance : Nat) (touched : List Nat) (f : Finding) (e : FaultEntry) :
    isCandidate p matchDistance touched f e = true ↔ e.port = p ∧
      (e.det.kind = f.kind ∨ (e.det.kind = .step ∧ f.kind = .bend) ∨ (e.det.kind = .bend ∧ f.kind = .step)) ∧
      e.det.distance ≤ f.distance + matchDistance ∧ f.distance ≤ e.det.distance + matchDistance ∧ e.id ∉ touched := by
  simp only [isCandidate, Bool.and_eq_true, decide_eq_true_eq, sameClass_iff, distanceDiff_le_iff, Bool.not_eq_true',
    ← Bool.not_eq_true, List.contains_iff_mem, and_assoc]

section
variable {f : Finding} {a b e : FaultEntry} {l : List FaultEntry}

theorem betterMatch_iff : betterMatch f a b = true ↔
    distanceDiff a.det.distance f.distance < distanceDiff b.det.distance f.distance ∨
      (distanceDiff a.det.distance f.distance = distanceDiff b.det.distance f.distance ∧ a.id < b.id) := by
  simp only [betterMatch, Bool.or_eq_true, Bool.and_eq_true, decide_eq_true_eq]

theorem not_betterMatch_of_betterMatch (h : betterMatch f a b = true) : ¬ betterMatch f b a = true := by
  rw [betterMatch_iff] at h ⊢
  omega

theorem bestMatch_nil : bestMatch f [] = none := rfl

theorem bestMatch_cons_of_none (h : bestMatch f l = none) : bestMatch f (a :: l) = some a := by
  rw [bestMatch, h]

theorem bestMatch_cons_of_some (h : bestMatch f l = some b) :
    bestMatch f (a :: l) = if betterMatch f b a then some b else some a := by
  rw [bestMatch, h]

/-- A candidate better than every other one is the match, wherever it stands in the table (R130). -/
theorem bestMatch_eq_some (he : e ∈ l) (hbest : ∀ g ∈ l, g ≠ e → betterMatch f e g = true) :
    bestMatch f l = some e := by
  induction l with
  | nil => cases he
  | cons a l ih =>
    by_cases hel : e ∈ l
    · rw [bestMatch_cons_of_some (ih hel fun g hg => hbest g (List.mem_cons_of_mem _ hg))]
      by_cases hae : a = e
      · rw [hae, ite_self]
      · rw [if_pos (hbest a List.mem_cons_self hae)]
    · obtain rfl : e = a := (List.mem_cons.1 he).resolve_right hel
      cases hrest : bestMatch f l with
      | none => exact bestMatch_cons_of_none hrest
      | some b =>
        have hb : b ∈ l := bestMatch_mem hrest
        have hworse := hbest b (List.mem_cons_of_mem _ hb) (ne_of_mem_of_not_mem hb hel)
        rw [bestMatch_cons_of_some hrest, if_neg (not_betterMatch_of_betterMatch hworse)]

end

/-! ### Room and id for a new entry (R128, R132) -/

section
variable {table older newer : List FaultEntry} {old : FaultEntry} {id : Nat}

theorem makeRoom_of_room (h : table.length < 64) : makeRoom table = some table := if_pos h

theorem oldestCleared_eq_none (h : ∀ g ∈ table, g.state ≠ .cleared) : oldestCleared table = none :=
  List.find?_eq_none.2 fun g hg => by simpa using h g hg

theorem oldestCleared_append (hold : old.state = .cleared) (holder : ∀ g ∈ older, g.state ≠ .cleared) :
    oldestCleared (older ++ old :: newer) = some old :=
  List.find?_eq_some_iff_append.2 ⟨by simpa using hold, older, newer, rfl, fun g hg => by simpa using holder g hg⟩

/-- Only the entry named leaves the table (R126). -/
theorem removeEntry_append (h : ((older ++ old :: newer).map (fun e => e.id)).Nodup) :
    removeEntry (older ++ old :: newer) old.id = older ++ newer := by
  rw [List.map_append, List.map_cons, List.nodup_middle, ← List.map_append] at h
  have hothers : ∀ g ∈ older ++ newer, g.id ≠ old.id := fun g hg heq =>
    (List.nodup_cons.1 h).1 (heq ▸ List.mem_map_of_mem hg)
  simp only [List.mem_append, or_imp, forall_and] at hothers
  rw [removeEntry, List.filter_append, List.filter_cons_of_neg (by simp),
    List.filter_eq_self.2 fun g hg => decide_eq_true (hothers.1 g hg),
    List.filter_eq_self.2 fun g hg => decide_eq_true (hothers.2 g hg)]

theorem makeRoom_of_full (h : 64 ≤ table.length) :
    makeRoom table = (oldestCleared table).map (fun e => removeEntry table e.id) := if_neg (Nat.not_lt.2 h)

theorem makeRoom_of_oldest (hnodup : (table.map (fun e => e.id)).Nodup) (hfull : 64 ≤ table.length)
    (htable : table = older ++ old :: newer) (hold : old.state = .cleared)
    (holder : ∀ g ∈ older, g.state ≠ .cleared) : makeRoom table = some (older ++ newer) := by
  rw [makeRoom_of_full hfull]
  subst htable
  rw [oldestCleared_append hold holder, Option.map_some, removeEntry_append hnodup]

theorem makeRoom_eq_none (hfull : 64 ≤ table.length) (h : ∀ g ∈ table, g.state ≠ .cleared) :
    makeRoom table = none := by
  rw [makeRoom_of_full hfull, oldestCleared_eq_none h, Option.map_none]

/-- The ids below a free one are held by as many entries. -/
theorem le_length_of_ids_held (h : ∀ j, j < id → ∃ g ∈ table, g.id = j) : id ≤ table.length := by
  have hsub : List.range id ⊆ table.map (fun e => e.id) := fun j hj => List.mem_map.2 (h j (List.mem_range.1 hj))
  simpa using (List.nodup_range.subperm hsub).length_le

/-- A table that is not full gives the lowest id no entry holds (R128). -/
theorem freeId_eq_some (hroom : table.length < 64) (hfree : ∀ g ∈ table, g.id ≠ id)
    (hlow : ∀ j, j < id → ∃ g ∈ table, g.id = j) : freeId table = some id := by
  have hid : id < 64 := Nat.lt_of_le_of_lt (le_length_of_ids_held hlow) hroom
  refine List.find?_range_eq_some.2 ⟨by simpa using hfree, List.mem_range.2 hid, fun j hj => ?_⟩
  simpa using hlow j hj

end

/-! ### One finding (R131, R132) -/

section
variable {p : PortNo} {matchDistance sp ticket : Nat} {x : Fold} {f : Finding}

theorem refindingAnnounces_eq (e : FaultEntry) (f : Finding) : refindingAnnounces e f =
    decide (e.state ≠ .active ∨ e.det.kind ≠ f.kind ∨ e.det.bands ≠ f.bands) := by
  simp only [refindingAnnounces, Bool.decide_or, Bool.or_assoc]

theorem Fold.take_of_best {e : FaultEntry} (he : e ∈ x.table)
    (hcand : isCandidate p matchDistance x.touched f e = true)
    (hbest : ∀ g ∈ x.table, isCandidate p matchDistance x.touched f g = true → g ≠ e → betterMatch f e g = true) :
    Fold.take p matchDistance sp ticket x f =
      { x with
        table := replaceEntry x.table ((e.refound f sp ticket).announce (refindingAnnounces e f))
        touched := e.id :: x.touched
        announced := x.announced || refindingAnnounces e f } := by
  have hmatch : bestMatch f (x.table.filter (isCandidate p matchDistance x.touched f)) = some e :=
    bestMatch_eq_some (List.mem_filter.2 ⟨he, hcand⟩) fun g hg =>
      hbest g (List.mem_filter.1 hg).1 (List.mem_filter.1 hg).2
  rw [Fold.take, hmatch]

theorem Fold.take_of_noCandidate (h : ∀ e ∈ x.table, ¬ isCandidate p matchDistance x.touched f e = true) :
    Fold.take p matchDistance sp ticket x f = x.create p f sp ticket := by
  rw [Fold.take, List.filter_eq_nil_iff.2 h, bestMatch_nil]

theorem Fold.create_of_room {table : List FaultEntry} {id : Nat} (hroom : makeRoom x.table = some table)
    (hid : freeId table = some id) :
    x.create p f sp ticket =
      { x with table := table ++ [newEntry id p f sp ticket], touched := id :: x.touched, announced := true } := by
  rw [Fold.create, hroom]
  dsimp only
  rw [hid]

theorem Fold.create_of_noRoom (h : makeRoom x.table = none) : x.create p f sp ticket = { x with full := true } := by
  rw [Fold.create, h]

end

/-! ### Misses (R133 to R135, R137) -/

theorem missLimit_eq (k : FaultKind) : missLimit k = if k = .brk then 1 else 3 := by
  cases k <;> rfl

/-- A miss changes the state of an entry that is not CLEARED exactly at its kind's limit (R133). -/
theorem FaultEntry.miss_state_ne_iff {e : FaultEntry} (h : e.state ≠ .cleared) :
    e.miss.state ≠ e.state ↔ missLimit e.det.kind ≤ e.misses + 1 := by
  obtain ⟨hlast, hmore⟩ := e.miss_spec
  by_cases hm : missLimit e.det.kind ≤ e.misses + 1
  · rw [hlast hm]
    exact iff_of_true h.symm hm
  · rw [hmore hm]
    exact iff_of_false (fun hne => hne rfl) hm

section
variable (x : Fold) (p : PortNo) (sp limit : Nat) (hasBreak : Bool)

theorem Fold.countMisses_announced : (x.countMisses p sp limit hasBreak).announced = true ↔ x.announced = true ∨
    ∃ e ∈ x.table, isMissed p sp limit hasBreak x.touched e = true ∧ missLimit e.det.kind ≤ e.misses + 1 := by
  have hlast : ∀ e, (isMissed p sp limit hasBreak x.touched e = true ∧ e.miss.state ≠ e.state) ↔
      isMissed p sp limit hasBreak x.touched e = true ∧ missLimit e.det.kind ≤ e.misses + 1 := fun e =>
    and_congr_right fun hm =>
      have ⟨_, _, hstate, _⟩ := (isMissed_iff ..).1 hm
      FaultEntry.miss_state_ne_iff hstate
  simp only [Fold.countMisses, Bool.or_eq_true, List.any_eq_true, Bool.and_eq_true, decide_eq_true_eq, hlast]

theorem Fold.countMisses_length : (x.countMisses p sp limit hasBreak).table.length = x.table.length :=
  List.length_map _

theorem Fold.countMisses_getElem? {i : Nat} {e : FaultEntry} (h : x.table[i]? = some e) :
    (x.countMisses p sp limit hasBreak).table[i]? =
      some (if isMissed p sp limit hasBreak x.touched e then e.miss else e) := by
  rw [Fold.countMisses, List.getElem?_map, h, Option.map_some]

end

/-! ### Reclassifications (R136, R137) -/

theorem stillUnclassified_iff (e : FaultEntry) :
    stillUnclassified e = true ↔ e.det.kind = .step ∧ e.det.bands = some .bOnly := by
  simp only [stillUnclassified, Bool.and_eq_true, decide_eq_true_eq]

section
variable (x : Fold) (id : Nat) (k : FaultKind)

theorem Fold.reclassify_announced : (x.reclassify (id, k)).announced = true ↔ x.announced = true ∨
    ∃ e ∈ x.table, e.id = id ∧ e.det.kind = .step ∧ e.det.bands = some .bOnly := by
  simp only [Fold.reclassify, Bool.or_eq_true, List.any_eq_true, Bool.and_eq_true, decide_eq_true_eq,
    stillUnclassified_iff]

theorem Fold.reclassify_length : (x.reclassify (id, k)).table.length = x.table.length := List.length_map _

theorem Fold.reclassify_getElem? {i : Nat} {e : FaultEntry} (h : x.table[i]? = some e) :
    (x.reclassify (id, k)).table[i]? =
      some (if e.id = id ∧ e.det.kind = .step ∧ e.det.bands = some .bOnly then e.reclassify k else e) := by
  simp only [Fold.reclassify, List.getElem?_map, h, Option.map_some, Bool.and_eq_true, decide_eq_true_eq,
    stillUnclassified_iff]

end

end Sys2Proof.Machine

open Sys2Proof
open Sys2Proof.Machine

/-- Settles O51: the stages are those of `foldTest`; each changes the entries its lemmas name, in place. -/
theorem foldTakesAFinding : Obligations.FoldTakesAFinding := by
  refine ⟨fun _ _ _ _ _ _ => rfl, ?_, ?_, ?_⟩
  · rintro x _ p sp limit hasBreak missed last rfl hmissed hlast
    have hiff : ∀ e, missed e ↔ isMissed p sp limit hasBreak x.touched e = true := fun e =>
      (hmissed e).trans (isMissed_iff ..).symm
    simp only [← missLimit_eq] at hlast
    refine ⟨rfl, rfl, ?_, x.countMisses_length .., fun i e he => ?_⟩
    · simp only [hlast, hiff]
      exact x.countMisses_announced ..
    · obtain ⟨hclears, hcounts⟩ := e.miss_spec
      rw [x.countMisses_getElem? _ _ _ _ he, hlast, hiff]
      refine ⟨fun hno => by rw [if_neg hno], fun hm hnot => ?_, fun ⟨hm, hlim⟩ => by rw [if_pos hm, hclears hlim]⟩
      rw [if_pos hm, hcounts fun hlim => hnot ⟨hm, hlim⟩]
  · rintro x _ id k named rfl hnamed
    refine ⟨rfl, rfl, ?_, x.reclassify_length .., fun i e he => ?_⟩
    · simp only [hnamed]
      exact x.reclassify_announced ..
    · rw [x.reclassify_getElem? _ _ he, hnamed]
      exact ⟨fun hno => by rw [if_neg hno], fun hyes => by rw [if_pos hyes]; rfl⟩
  · rintro p matchDistance sp ticket x _ f cand hnodup - hcand rfl
    have hiff : ∀ e, cand e ↔ e ∈ x.table ∧ isCandidate p matchDistance x.touched f e = true := fun e => by
      rw [hcand, isCandidate_iff]
    simp only [hiff]
    refine ⟨fun e news he hbest hnews => ?_, fun hnone => ?_⟩
    · rw [Fold.take_of_best he.1 he.2 fun g hg hc hne => betterMatch_iff.2 (hbest g ⟨hg, hc⟩ hne), hnews,
        refindingAnnounces_eq]
      rfl
    · rw [Fold.take_of_noCandidate fun e he hc => hnone e ⟨he, hc⟩]
      refine ⟨fun table id hroom hfree hlow hlen => Fold.create_of_room ?_ (freeId_eq_some hlen hfree hlow),
        fun hfull hno => Fold.create_of_noRoom (makeRoom_eq_none hfull hno)⟩
      rcases hroom with ⟨hlt, rfl⟩ | ⟨hfull, older, old, newer, htable, hold, holder, rfl⟩
      · exact makeRoom_of_room hlt
      · exact makeRoom_of_oldest hnodup hfull htable hold holder
end

section
/-! SUPPORT. The fault table's requests (R138 to R140): what each answers and does for the port's claimant, and the
words of a fault entry field by field (R175). -/

namespace Sys2Proof.Machine

/-! ### The entry words (R175) -/

section
variable (e : FaultEntry)

theorem FaultEntry.descriptor_id : e.descriptor.extractLsb' 24 6 = BitVec.ofNat 6 e.id := by
  rw [FaultEntry.descriptor]
  iterate 8 rw [BitVec.extractLsb'_append_eq_of_le (by decide)]
  exact BitVec.extractLsb'_eq_self

theorem FaultEntry.descriptor_port : e.descriptor.extractLsb' 19 5 = BitVec.ofNat 5 e.port.val := by
  rw [FaultEntry.descriptor]
  iterate 7 rw [BitVec.extractLsb'_append_eq_of_le (by decide)]
  exact BitVec.extractLsb'_append_eq_right

theorem FaultEntry.descriptor_kind : e.descriptor.extractLsb' 17 2 = BitVec.ofNat 2 e.det.kind.code := by
  rw [FaultEntry.descriptor]
  iterate 6 rw [BitVec.extractLsb'_append_eq_of_le (by decide)]
  exact BitVec.extractLsb'_append_eq_right

theorem FaultEntry.descriptor_state : e.descriptor.extractLsb' 15 2 = BitVec.ofNat 2 e.state.code := by
  rw [FaultEntry.descriptor]
  iterate 5 rw [BitVec.extractLsb'_append_eq_of_le (by decide)]
  exact BitVec.extractLsb'_append_eq_right

theorem FaultEntry.descriptor_bands :
    e.descriptor.extractLsb' 13 2 = BitVec.ofNat 2 (bandsEvalCode e.det.bands) := by
  rw [FaultEntry.descriptor]
  iterate 4 rw [BitVec.extractLsb'_append_eq_of_le (by decide)]
  exact BitVec.extractLsb'_append_eq_right

theorem FaultEntry.descriptor_saturated :
    e.descriptor.extractLsb' 11 2 = BitVec.ofNat 2 (saturatedCode e.det.saturated) := by
  rw [FaultEntry.descriptor]
  iterate 3 rw [BitVec.extractLsb'_append_eq_of_le (by decide)]
  exact BitVec.extractLsb'_append_eq_right

theorem FaultEntry.descriptor_misses : e.descriptor.extractLsb' 9 2 = BitVec.ofNat 2 e.misses := by
  rw [FaultEntry.descriptor]
  iterate 2 rw [BitVec.extractLsb'_append_eq_of_le (by decide)]
  exact BitVec.extractLsb'_append_eq_right

theorem FaultEntry.descriptor_acked : e.descriptor.getLsbD 8 = e.acked := by
  rw [FaultEntry.descriptor, BitVec.getLsbD_append, if_neg (by decide), BitVec.getLsbD_append, if_pos (by decide)]
  simp

theorem FaultEntry.descriptor_low : e.descriptor.extractLsb' 0 8 = 0#8 := BitVec.extractLsb'_append_eq_right

/-- The index word: the location above the loss point (R175). -/
def FaultEntry.indexWord : Payload :=
  BitVec.ofNat 15 e.det.location ++ BitVec.ofNat 15 (e.det.lossPoint.getD 32767)

theorem FaultEntry.body_eq : e.body = [e.descriptor, e.indexWord, num e.spacing, num e.det.distance,
    optNum (e.det.loss.map Int.toNat), heightWord e.det.height, num e.firstTicket, num e.lastTicket, num e.hits] := rfl

theorem FaultEntry.indexWord_location : e.indexWord.extractLsb' 15 15 = BitVec.ofNat 15 e.det.location :=
  BitVec.extractLsb'_append_eq_left

theorem FaultEntry.indexWord_lossPoint :
    e.indexWord.extractLsb' 0 15 = BitVec.ofNat 15 (e.det.lossPoint.getD 32767) := BitVec.extractLsb'_append_eq_right

end

theorem FaultKind.code_lt (k : FaultKind) : k.code < 2 ^ 2 := by cases k <;> decide

theorem FaultState.code_lt (st : FaultState) : st.code < 2 ^ 2 := by cases st <;> decide

theorem bandsEvalCode_lt (b : Option BandsEval) : bandsEvalCode b < 2 ^ 2 := by
  unfold bandsEvalCode
  split <;> decide

theorem saturatedCode_lt (b : Option Bool) : saturatedCode b < 2 ^ 2 := by
  unfold saturatedCode
  split <;> decide

/-- A value that is not negative and fits its field is sent as itself. -/
theorem toNat_ofInt_of_fits {n : Nat} {z : Int} (h0 : 0 ≤ z) (h : z < 2 ^ n) : ((BitVec.ofInt n z).toNat : Int) = z := by
  rw [BitVec.toNat_ofInt, Int.toNat_of_nonneg (Int.emod_nonneg _ (by positivity))]
  exact Int.emod_eq_of_lt h0 (by exact_mod_cast h)

/-- A height that is present is sent in tu above and mdB below (R175). -/
theorem heightWord_fields {h : Height} (htu : 0 ≤ h.tu) (htu' : h.tu < 16384) (hmdB : 0 ≤ h.mdB)
    (hmdB' : h.mdB < 65536) :
    (((heightWord (some h)).extractLsb' 16 14).toNat : Int) = h.tu ∧
      (((heightWord (some h)).extractLsb' 0 16).toNat : Int) = h.mdB := by
  have htop : (heightWord (some h)).extractLsb' 16 14 = BitVec.ofInt 14 h.tu := BitVec.extractLsb'_append_eq_left
  have hlow : (heightWord (some h)).extractLsb' 0 16 = BitVec.ofInt 16 h.mdB := BitVec.extractLsb'_append_eq_right
  rw [htop, hlow]
  exact ⟨toNat_ofInt_of_fits htu htu', toNat_ofInt_of_fits hmdB hmdB'⟩

/-! ### The entry of an id (R139) -/

section
variable {s : State} {p : PortNo} {id : Nat}

theorem State.faultById_eq_none (h : ∀ e ∈ s.faults, e.id = id → e.port ≠ p) : s.faultById p id = none :=
  List.find?_eq_none.2 fun e he => by simpa using fun hp hid => h e he hid hp

/-- An id names one entry of the table (R128). -/
theorem State.faultById_eq_some (hnodup : (s.faults.map (fun e => e.id)).Nodup) {e : FaultEntry} (he : e ∈ s.faults)
    (hid : e.id = id) (hp : e.port = p) : s.faultById p id = some e := by
  cases hfound : s.faultById p id with
  | none => exact absurd (List.find?_eq_none.1 hfound e he) (by simp [hid, hp])
  | some g =>
    have hg := List.find?_some hfound
    simp only [Bool.and_eq_true, decide_eq_true_eq] at hg
    rw [eq_of_nodup_map _ _ hnodup (List.mem_of_find?_eq_some hfound) he (hg.2.trans hid.symm)]

end

/-! ### The requests of the claimant -/

section
variable {s : State} {c : Client} {port v : Payload} {p : PortNo} (hport : port.toNat = p.val)
  (hclaim : (s.port p).claimant = some c)
include hport hclaim

theorem doGetFindings_badValue (hv : 64 ≤ v.toNat) : doGetFindings c port v s = (.plain .badValue, s) := by
  simp only [doGetFindings, ownedPort_of_claimant s c port p hport hclaim, if_pos hv]

theorem doGetFindings_listed (hv : v.toNat < 64) :
    doGetFindings c port v s =
      ({ code := .ok
         body := [num (s.faultsOf p).length, num s.faults.length, num v.toNat] ++
           ((((s.faultsOf p).drop v.toNat).take 6).map (fun e => e.body)).flatten },
        s.setPort p { s.port p with unseen := false }) := by
  simp only [doGetFindings, ownedPort_of_claimant s c port p hport hclaim, if_neg (Nat.not_le.2 hv)]
  rfl

theorem doAckFinding_badValue (hv : 64 ≤ v.toNat) : doAckFinding c port v s = (.plain .badValue, s) := by
  simp only [doAckFinding, ownedPort_of_claimant s c port p hport hclaim, if_pos hv]

theorem doDeleteFinding_badValue (hv : 64 ≤ v.toNat) : doDeleteFinding c port v s = (.plain .badValue, s) := by
  simp only [doDeleteFinding, ownedPort_of_claimant s c port p hport hclaim, if_pos hv]

variable (hv : v.toNat < 64)
include hv

theorem doAckFinding_unknown (h : s.faultById p v.toNat = none) :
    doAckFinding c port v s = (.plain .unknown, s) := by
  simp only [doAckFinding, ownedPort_of_claimant s c port p hport hclaim, if_neg (Nat.not_le.2 hv), h]

theorem doDeleteFinding_unknown (h : s.faultById p v.toNat = none) :
    doDeleteFinding c port v s = (.plain .unknown, s) := by
  simp only [doDeleteFinding, ownedPort_of_claimant s c port p hport hclaim, if_neg (Nat.not_le.2 hv), h]

variable {e : FaultEntry} (h : s.faultById p v.toNat = some e)
include h

theorem doAckFinding_found :
    doAckFinding c port v s = (.plain .ok, s.setFaults (replaceEntry s.faults { e with acked := true })) := by
  simp only [doAckFinding, ownedPort_of_claimant s c port p hport hclaim, if_neg (Nat.not_le.2 hv), h]

theorem doDeleteFinding_cleared (hs : e.state = .cleared) :
    doDeleteFinding c port v s = (.plain .ok, s.setFaults (removeEntry s.faults e.id)) := by
  simp only [doDeleteFinding, ownedPort_of_claimant s c port p hport hclaim, if_neg (Nat.not_le.2 hv), h, if_pos hs]

theorem doDeleteFinding_notAllowed (hs : e.state ≠ .cleared) :
    doDeleteFinding c port v s = (.plain .notAllowed, s) := by
  simp only [doDeleteFinding, ownedPort_of_claimant s c port p hport hclaim, if_neg (Nat.not_le.2 hv), h, if_neg hs]

end

end Sys2Proof.Machine

open Sys2Proof
open Sys2Proof.Machine

/-- Settles O52: the words of an entry part by part; each request passes the checks of R3 and is answered as its block
says for the entry the id names. -/
theorem findingRequestsActOnTheTable : Obligations.FindingRequestsActOnTheTable := by
  refine ⟨fun e => ⟨_, _, _, e.body_eq, fun hid => toNat_of_field e.descriptor_id hid,
    toNat_of_field e.descriptor_port e.port.isLt, toNat_of_field e.descriptor_kind e.det.kind.code_lt,
    toNat_of_field e.descriptor_state e.state.code_lt, toNat_of_field e.descriptor_bands (bandsEvalCode_lt _),
    toNat_of_field e.descriptor_saturated (saturatedCode_lt _),
    fun hm => toNat_of_field e.descriptor_misses (Nat.lt_succ_of_le hm), e.descriptor_acked, e.descriptor_low,
    fun hloc => toNat_of_field e.indexWord_location (hloc.trans (by decide)), fun hnone => ?_, fun n hsome hn => ?_,
    fun hnone => by rw [hnone]; rfl, fun h hsome htu htu' hmdB hmdB' => ?_⟩, ?_⟩
  · rw [e.indexWord_lossPoint, hnone]
    rfl
  · refine toNat_of_field ?_ (hn.trans (by decide))
    rw [e.indexWord_lossPoint, hsome, Option.getD_some]
  · rw [hsome]
    exact heightWord_fields htu htu' hmdB hmdB'
  · rintro s c tag port v p _ h hport hclaim rfl
    have hget : ∀ {x u}, doGetFindings c port v s = (x, u) → _ := fun hu =>
      State.takeRequest_of_handle (r := .getFindings port v) tag h nofun nofun rfl hu
    have hack : ∀ {x u}, doAckFinding c port v s = (x, u) → _ := fun hu =>
      State.takeRequest_of_handle (r := .ackFinding port v) tag h nofun nofun rfl hu
    have hdelete : ∀ {x u}, doDeleteFinding c port v s = (x, u) → _ := fun hu =>
      State.takeRequest_of_handle (r := .deleteFinding port v) tag h nofun nofun rfl hu
    refine ⟨_, _, _, rfl, rfl, rfl, fun hbad => ?_, fun hv => ?_⟩
    · obtain ⟨hgetAnswer, hgetState⟩ := hget (doGetFindings_badValue hport hclaim hbad)
      obtain ⟨hackAnswer, hackState⟩ := hack (doAckFinding_badValue hport hclaim hbad)
      exact ⟨hgetAnswer, hgetState, hackAnswer, hackState, hdelete (doDeleteFinding_badValue hport hclaim hbad)⟩
    · obtain ⟨hgetAnswer, hgetState⟩ := hget (doGetFindings_listed hport hclaim hv)
      refine ⟨hgetAnswer, hgetState, fun hno => ?_, fun hnodup e he hid hp => ?_⟩
      · have hnone := State.faultById_eq_none hno
        obtain ⟨hackAnswer, hackState⟩ := hack (doAckFinding_unknown hport hclaim hv hnone)
        exact ⟨hackAnswer, hackState, hdelete (doDeleteFinding_unknown hport hclaim hv hnone)⟩
      · have hfound := State.faultById_eq_some hnodup he hid hp
        obtain ⟨hackAnswer, hackState⟩ := hack (doAckFinding_found hport hclaim hv hfound)
        exact ⟨hackAnswer, hackState,
          fun hs => hdelete (doDeleteFinding_notAllowed hport hclaim hv hfound hs),
          fun hs => hdelete (doDeleteFinding_cleared hport hclaim hv hfound hs)⟩
end

section
/-! SUPPORT. The baseline store on its own (chapter 9): the form of the commit queue (`StoreInv`) and the room in it
(`OccupancyInv`) as facts of the store alone, and what each change of the store keeps of them. -/

namespace Sys2Proof.Machine

/-! ### The buffers that WRITEs hold (R145, R146) -/

/-- The buffer a commit entry holds. -/
def Commit.held (e : Commit) : Option (Fin 4) :=
  match e.op with
  | .write i => some i
  | .erase => none

theorem Commit.held_eq_some (e : Commit) (i : Fin 4) : e.held = some i ↔ e.op = .write i := by
  unfold Commit.held
  split <;> simp_all

/-- Every WRITE of these entries holds a held buffer of its own. -/
def OwnBuffers (buffers : Tab Buffer 4) (es : List Commit) : Prop :=
  (∀ e ∈ es, ∀ i, e.op = .write i → ∃ x, buffers.at i = .held x) ∧ (es.filterMap Commit.held).Nodup

theorem ownBuffers_nil (buffers : Tab Buffer 4) : OwnBuffers buffers [] := ⟨nofun, List.nodup_nil⟩

theorem ownBuffers_cons {buffers : Tab Buffer 4} {e : Commit} {es : List Commit} :
    OwnBuffers buffers (e :: es) ↔
      (∀ i, e.op = .write i → (∃ x, buffers.at i = .held x) ∧ ∀ f ∈ es, f.op ≠ .write i) ∧ OwnBuffers buffers es := by
  have hmem : ∀ i, i ∉ es.filterMap Commit.held ↔ ∀ f ∈ es, f.op ≠ .write i := fun i => by
    simp [List.mem_filterMap, Commit.held_eq_some]
  simp only [OwnBuffers, List.forall_mem_cons, ← hmem]
  cases hop : e.op with
  | erase =>
    have hheld : e.held = none := by rw [Commit.held, hop]
    simp [List.filterMap_cons_none hheld]
  | write j =>
    have hheld : e.held = some j := (e.held_eq_some j).2 hop
    rw [List.filterMap_cons_some hheld, List.nodup_cons]
    simp only [CommitOp.write.injEq, forall_eq']
    tauto

theorem OwnBuffers.perm {buffers : Tab Buffer 4} {es fs : List Commit} (h : OwnBuffers buffers es) (hp : fs.Perm es) :
    OwnBuffers buffers fs :=
  ⟨fun e he => h.1 e (hp.subset he), (hp.filterMap _).nodup_iff.2 h.2⟩

/-- Other buffers in which the held ones that count are held still. -/
theorem OwnBuffers.of_buffers {b b' : Tab Buffer 4} {es : List Commit} (h : OwnBuffers b es)
    (hb : ∀ i x, b.at i = .held x → (∃ e ∈ es, e.op = .write i) → b'.at i = .held x) : OwnBuffers b' es :=
  ⟨fun e he i hi => (h.1 e he i hi).imp fun x hx => hb i x hx ⟨e, he, hi⟩, h.2⟩

/-- A buffer that no entry holds may change. -/
theorem OwnBuffers.put {b : Tab Buffer 4} {es : List Commit} (h : OwnBuffers b es) (i : Fin 4) (x : Buffer)
    (hi : ∀ e ∈ es, e.op ≠ .write i) : OwnBuffers (b.put i x) es := by
  refine h.of_buffers fun j y hj ⟨e, he, hop⟩ => ?_
  have hij : i ≠ j := fun hij => hi e he (hij ▸ hop)
  rwa [Tab.at_put_ne _ _ hij]

/-- An entry that leaves frees its buffer and none of another entry's (R148, R151). -/
theorem OwnBuffers.freeBufferOf {st : Store} {e : Commit} {es : List Commit} (h : OwnBuffers st.buffers (e :: es)) :
    OwnBuffers (st.freeBufferOf e.op).buffers es := by
  obtain ⟨hown, hrest⟩ := ownBuffers_cons.1 h
  cases hop : e.op with
  | erase => exact hrest
  | write i => exact hrest.put i .free (hown i hop).2

/-! ### The form of the commit queue (R146, R149) -/

/-- Exactly the head is WRITING, its slot is EMPTY in the memory, and no slot has two QUEUED entries. -/
def Store.HeadWrites (st : Store) : Prop :=
  ∀ e rest, st.commits = e :: rest →
    e.writing = true ∧ (∀ f ∈ rest, f.writing = false) ∧ st.slots.at e.slot = none ∧ (rest.map (fun f => f.slot)).Nodup

/-- The form of the commit queue: `StoreInv` on the store alone. -/
def Store.Form (st : Store) : Prop := st.HeadWrites ∧ OwnBuffers st.buffers st.commits

theorem storeInv_iff (s : State) : StoreInv s ↔ s.store.Form := Iff.rfl

theorem Store.headWrites_cons {st : Store} {e : Commit} {rest : List Commit} (h : st.commits = e :: rest) :
    st.HeadWrites ↔ e.writing = true ∧ (∀ f ∈ rest, f.writing = false) ∧ st.slots.at e.slot = none ∧
      (rest.map (fun f => f.slot)).Nodup := by
  simp only [Store.HeadWrites, h, List.cons.injEq, and_imp, forall_apply_eq_imp_iff, forall_eq']

theorem Store.Form.of_empty {st : Store} (h : st.commits = []) : st.Form := by
  refine ⟨fun e rest he => ?_, h ▸ ownBuffers_nil _⟩
  cases h.symm.trans he

/-- Other buffers in which the held ones are held still. -/
theorem Store.Form.of_held {st u : Store} (h : st.Form) (commits : u.commits = st.commits) (slots : u.slots = st.slots)
    (held : ∀ i x, st.buffers.at i = .held x → u.buffers.at i = .held x) : u.Form := by
  obtain ⟨hhead, hown⟩ := h
  refine ⟨fun e rest he => ?_, ?_⟩
  · rw [slots]
    exact hhead e rest (commits ▸ he)
  · rw [commits]
    exact hown.of_buffers fun i x hi _ => held i x hi

/-- A buffer that is not held may change. -/
theorem Store.Form.put {st : Store} (h : st.Form) {i : Fin 4} (hi : ∀ y, st.buffers.at i ≠ .held y) (x : Buffer) :
    ({ st with buffers := st.buffers.put i x } : Store).Form := by
  refine h.of_held rfl rfl fun j y hj => (Tab.at_put_ne _ _ ?_).trans hj
  rintro rfl
  exact hi y hj

/-! ### The entry that waits for a slot (R148) -/

theorem Commit.waitsFor_iff (e : Commit) (slot : Fin 64) :
    e.waitsFor slot = true ↔ e.slot = slot ∧ e.writing = false := by
  simp [Commit.waitsFor]

/-- The QUEUED entry for a slot, if there is one (R148). -/
def Store.waiting (st : Store) (slot : Fin 64) : Option Commit := st.commits.find? (fun e => e.waitsFor slot)

theorem Store.waiting_eq_none (st : Store) (slot : Fin 64) :
    st.waiting slot = none ↔ ∀ e ∈ st.commits, e.slot = slot → e.writing = true := by
  simp [Store.waiting, Commit.waitsFor]

/-- No slot has two QUEUED entries. -/
theorem Store.HeadWrites.queued_nodup {st : Store} (h : st.HeadWrites) :
    ((st.commits.filter (fun e => !e.writing)).map (fun e => e.slot)).Nodup := by
  cases hc : st.commits with
  | nil => exact List.nodup_nil
  | cons e rest =>
    obtain ⟨hwriting, hqueued, -, hnodup⟩ := h e rest hc
    rw [List.filter_cons_of_neg (by simp [hwriting]), List.filter_eq_self.2 fun f hf => by simp [hqueued f hf]]
    exact hnodup

/-- The QUEUED entry for a slot is the only one. -/
theorem Store.HeadWrites.waiting_split {st : Store} (h : st.HeadWrites) {slot : Fin 64} {old : Commit}
    (hold : st.waiting slot = some old) :
    ∃ before after, st.commits = before ++ old :: after ∧ old.waitsFor slot = true ∧
      ∀ f ∈ before ++ after, f.waitsFor slot = false := by
  obtain ⟨hwaits, before, after, hc, hbefore⟩ := List.find?_eq_some_iff_append.1 hold
  refine ⟨before, after, hc, hwaits, fun f hf => ?_⟩
  rcases List.mem_append.1 hf with hf | hf
  · simpa using hbefore f hf
  · by_contra hfw
    obtain ⟨hslot, hqueued⟩ := (old.waitsFor_iff slot).1 hwaits
    obtain ⟨hfslot, hfqueued⟩ := (f.waitsFor_iff slot).1 (by simpa using hfw)
    have hnodup := h.queued_nodup
    rw [hc, List.filter_append, List.filter_cons_of_pos (by simp [hqueued]), List.map_append, List.map_cons] at hnodup
    obtain ⟨-, hnodup, -⟩ := List.nodup_append.1 hnodup
    refine (List.nodup_cons.1 hnodup).1 (List.mem_map.2 ⟨f, ?_, hfslot.trans hslot.symm⟩)
    exact List.mem_filter.2 ⟨hf, by simp [hfqueued]⟩

/-- An entry that waits for a slot is the one the store finds. -/
theorem Store.HeadWrites.waiting_of_mem {st : Store} (h : st.HeadWrites) {e : Commit} (he : e ∈ st.commits)
    (hq : e.writing = false) : st.waiting e.slot = some e := by
  have hwaits := (e.waitsFor_iff e.slot).2 ⟨rfl, hq⟩
  cases hold : st.waiting e.slot with
  | none => exact absurd hwaits (List.find?_eq_none.1 hold e he)
  | some old =>
    obtain ⟨before, after, hc, -, hothers⟩ := h.waiting_split hold
    rw [hc, List.mem_append, List.mem_cons] at he
    rcases he with he | rfl | he
    · cases hwaits.symm.trans (hothers e (List.mem_append_left _ he))
    · rfl
    · cases hwaits.symm.trans (hothers e (List.mem_append_right _ he))

/-! ### The beginning of programming (R149, R150) -/

theorem Store.beginHead_of_empty {st : Store} (h : st.commits = []) : st.beginHead = st := by
  simp only [Store.beginHead, h]

theorem Store.beginHead_of_writing {st : Store} {e : Commit} {rest : List Commit} (h : st.commits = e :: rest)
    (hw : e.writing = true) : st.beginHead = st := by
  simp only [Store.beginHead, h, if_pos hw]

theorem Store.beginHead_of_queued {st : Store} {e : Commit} {rest : List Commit} (h : st.commits = e :: rest)
    (hw : e.writing = false) :
    st.beginHead = { st with
      commits := { e with writing := true } :: rest
      slots := st.slots.put e.slot none
      programming := some (if e.op = .erase then 20000000 else 80000000) } := by
  cases hop : e.op <;> simp [Store.beginHead, h, hw, hop, Config.writeTime, Config.eraseTime]

theorem Store.beginHead_buffers (st : Store) : st.beginHead.buffers = st.buffers := by
  unfold Store.beginHead
  (repeat' split) <;> rfl

theorem Store.beginHead_length (st : Store) : st.beginHead.commits.length = st.commits.length := by
  unfold Store.beginHead
  (repeat' split) <;> simp_all

/-- QUEUED entries for different slots are in form once the first of them is being programmed. -/
theorem Store.Form.beginHead {st : Store} (hqueued : ∀ f ∈ st.commits, f.writing = false)
    (hnodup : (st.commits.map (fun f => f.slot)).Nodup) (hown : OwnBuffers st.buffers st.commits) :
    st.beginHead.Form := by
  cases hc : st.commits with
  | nil =>
    rw [Store.beginHead_of_empty hc]
    exact .of_empty hc
  | cons e rest =>
    rw [hc] at hqueued hnodup hown
    obtain ⟨hhead, hrest⟩ := List.forall_mem_cons.1 hqueued
    rw [Store.beginHead_of_queued hc hhead]
    refine ⟨(Store.headWrites_cons (e := { e with writing := true }) rfl).2
      ⟨rfl, hrest, Tab.at_put_same .., (List.nodup_cons.1 hnodup).2⟩, ?_⟩
    obtain ⟨hop, hothers⟩ := ownBuffers_cons.1 hown
    exact ownBuffers_cons.2 ⟨hop, hothers⟩

/-! ### The placing of a commit (R148) -/

theorem Store.freeBufferOf_eq (st : Store) (op : CommitOp) :
    st.freeBufferOf op = { st with buffers := (st.freeBufferOf op).buffers } := by
  cases op <;> rfl

theorem Store.freeBufferOf_buffers (st : Store) (op : CommitOp) :
    (st.freeBufferOf op).buffers = (match op with | .write i => st.buffers.put i .free | .erase => st.buffers) := by
  cases op <;> rfl

/-- The entries with the operation of the one that waits for a slot replaced (R148). -/
def Store.replaced (st : Store) (slot : Fin 64) (op : CommitOp) : List Commit :=
  st.commits.map (fun e => if e.waitsFor slot then { e with op := op } else e)

theorem Store.place_of_waiting {st : Store} {slot : Fin 64} {old : Commit} (h : st.waiting slot = some old)
    (op : CommitOp) :
    st.place slot op = { st with
      buffers := (st.freeBufferOf old.op).buffers
      commits := st.replaced slot op } := by
  have h : st.commits.find? (fun e => e.waitsFor slot) = some old := h
  rw [Store.place, h]
  dsimp only
  rw [st.freeBufferOf_eq]
  rfl

/-- The store with an entry appended as the newest. -/
def Store.appended (st : Store) (slot : Fin 64) (op : CommitOp) : Store :=
  { st with commits := st.commits ++ [{ slot := slot, op := op, writing := false }] }

theorem Store.appended_of_cons {st : Store} {e : Commit} {rest : List Commit} (h : st.commits = e :: rest)
    (slot : Fin 64) (op : CommitOp) :
    (st.appended slot op).commits = e :: (rest ++ [{ slot := slot, op := op, writing := false }]) := by
  rw [Store.appended, h, List.cons_append]

theorem Store.place_of_none {st : Store} {slot : Fin 64} (h : st.waiting slot = none) (op : CommitOp) :
    st.place slot op = (st.appended slot op).beginHead := by
  have h : st.commits.find? (fun e => e.waitsFor slot) = none := h
  rw [Store.place, h]
  rfl

/-- Behind a WRITING head an entry waits (R148). -/
theorem Store.place_behind {st : Store} {slot : Fin 64} (h : st.waiting slot = none) {e : Commit} {rest : List Commit}
    (hc : st.commits = e :: rest) (hw : e.writing = true) (op : CommitOp) : st.place slot op = st.appended slot op := by
  rw [Store.place_of_none h]
  exact Store.beginHead_of_writing (Store.appended_of_cons hc slot op) hw

/-- In an empty queue an entry begins at once (R148, R149, R150). -/
theorem Store.place_of_empty {st : Store} (hc : st.commits = []) (slot : Fin 64) (op : CommitOp) :
    st.place slot op = { st with
      commits := [{ slot := slot, op := op, writing := true }]
      slots := st.slots.put slot none
      programming := some (if op = .erase then 20000000 else 80000000) } := by
  have hnone : st.waiting slot = none := by rw [Store.waiting, hc]; rfl
  have happended : (st.appended slot op).commits = [{ slot := slot, op := op, writing := false }] := by
    rw [Store.appended, hc, List.nil_append]
  rw [Store.place_of_none hnone, Store.beginHead_of_queued happended rfl]
  rfl

theorem Store.HeadWrites.replaced {st u : Store} (h : st.HeadWrites) (slot : Fin 64) (op : CommitOp)
    (commits : u.commits = st.replaced slot op) (slots : u.slots = st.slots) : u.HeadWrites := by
  have hslot : ∀ f : Commit, (if f.waitsFor slot then { f with op := op } else f).slot = f.slot := fun f => by
    split <;> rfl
  have hwriting : ∀ f : Commit, (if f.waitsFor slot then { f with op := op } else f).writing = f.writing := fun f => by
    split <;> rfl
  cases hc : st.commits with
  | nil =>
    intro e rest he
    rw [commits, Store.replaced, hc] at he
    cases he
  | cons e rest =>
    have hu := commits
    rw [Store.replaced, hc, List.map_cons] at hu
    rw [Store.headWrites_cons hu, hslot, hwriting, slots, List.map_map, List.forall_mem_map]
    simp only [hwriting, Function.comp_def, hslot]
    exact h e rest hc

/-- The entries with one operation replaced, that one first. -/
theorem Store.HeadWrites.replaced_perm {st : Store} (h : st.HeadWrites) {slot : Fin 64} {old : Commit}
    (hold : st.waiting slot = some old) :
    ∃ others, st.commits.Perm (old :: others) ∧ ∀ op, (st.replaced slot op).Perm ({ old with op := op } :: others) := by
  obtain ⟨before, after, hc, hwaits, hothers⟩ := h.waiting_split hold
  refine ⟨before ++ after, hc ▸ List.perm_middle, fun op => ?_⟩
  have hkeep : ∀ l : List Commit, (∀ f ∈ l, f.waitsFor slot = false) →
      l.map (fun e => if e.waitsFor slot then { e with op := op } else e) = l := fun l hl =>
    (List.map_congr_left fun f hf => by rw [hl f hf]; rfl).trans l.map_id
  rw [Store.replaced, hc, List.map_append, List.map_cons, if_pos hwaits,
    hkeep before fun f hf => hothers f (List.mem_append_left _ hf),
    hkeep after fun f hf => hothers f (List.mem_append_right _ hf)]
  exact List.perm_middle

section
variable {st : Store} (h : st.Form) {slot : Fin 64} {op : CommitOp}
  (hop : ∀ i, op = .write i → (∃ x, st.buffers.at i = .held x) ∧ ∀ f ∈ st.commits, f.op ≠ .write i)
include h hop

/-- The entry that waits takes the operation, and its buffer is free. -/
theorem Store.Form.place_of_waiting {old : Commit} (hold : st.waiting slot = some old) : (st.place slot op).Form := by
  obtain ⟨hhead, hown⟩ := h
  obtain ⟨others, hperm, hreplaced⟩ := hhead.replaced_perm hold
  rw [Store.place_of_waiting hold]
  refine ⟨hhead.replaced slot op rfl rfl, OwnBuffers.perm ?_ (hreplaced op)⟩
  refine ownBuffers_cons.2 ⟨fun i hi => ?_, (hown.perm hperm.symm).freeBufferOf⟩
  obtain ⟨⟨x, hx⟩, hfree⟩ := hop i hi
  have hother := hfree old (hperm.symm.subset List.mem_cons_self)
  refine ⟨⟨x, ?_⟩, fun f hf => hfree f (hperm.symm.subset (List.mem_cons_of_mem _ hf))⟩
  cases hop : old.op with
  | erase => exact hx
  | write j =>
    have hji : j ≠ i := fun hji => hother (hji ▸ hop)
    exact (Tab.at_put_ne _ _ hji).trans hx

/-- The new entry waits behind the WRITING head, or is the head and begins. -/
theorem Store.Form.place_of_none (hnone : st.waiting slot = none) : (st.place slot op).Form := by
  obtain ⟨hhead, hown⟩ := h
  have hslots := (st.waiting_eq_none slot).1 hnone
  have hownew : OwnBuffers st.buffers (st.appended slot op).commits :=
    ((ownBuffers_cons (e := { slot := slot, op := op, writing := false })).2 ⟨hop, hown⟩).perm
      (List.perm_append_singleton ..)
  cases hc : st.commits with
  | nil =>
    rw [Store.place_of_none hnone]
    refine .beginHead ?_ ?_ hownew <;> simp [Store.appended, hc]
  | cons e rest =>
    obtain ⟨hwriting, hqueued, hslot, hnodup⟩ := hhead e rest hc
    rw [Store.place_behind hnone hc hwriting]
    refine ⟨(Store.headWrites_cons (Store.appended_of_cons hc slot op)).2 ⟨hwriting, ?_, hslot, ?_⟩, hownew⟩
    · simpa [or_imp, forall_and] using hqueued
    · have hnew : ∀ f ∈ rest, f.slot ≠ slot := fun f hf hs => by
        cases (hqueued f hf).symm.trans (hslots f (hc ▸ List.mem_cons_of_mem _ hf) hs)
      rw [List.map_append, List.map_singleton]
      exact List.nodup_append.2 ⟨hnodup, List.nodup_singleton _, by simpa using hnew⟩

/-- An operation whose buffer is held, and by no entry yet, is placed in form. -/
theorem Store.Form.place : (st.place slot op).Form := by
  cases hold : st.waiting slot with
  | some old => exact h.place_of_waiting hop hold
  | none => exact h.place_of_none hop hold

end

/-! ### The room in the commit queue (R145, R146) -/

/-- The occupancy within four, and one buffer at most reserved: `OccupancyInv` without its clause on the engine. -/
def Store.Room (st : Store) : Prop :=
  st.occupancy ≤ Config.commitCapacity ∧
    ∀ i j, st.buffers.at i = .reserved → st.buffers.at j = .reserved → i = j

theorem Store.reservedBuffer_spec {st : Store} {i : Fin 4} (h : st.reservedBuffer = some i) :
    st.buffers.at i = .reserved := by
  simpa using List.find?_some (p := fun i => decide (st.buffers.at i = .reserved)) h

theorem Store.occupancy_le_iff (st : Store) :
    st.occupancy ≤ Config.commitCapacity ↔
      st.commits.length ≤ 4 ∧ ∀ i, st.buffers.at i = .reserved → st.commits.length ≤ 3 := by
  rw [Store.occupancy, Config.commitCapacity]
  cases h : st.reservedBuffer with
  | none =>
    have hnone := st.reservedBuffer_eq_none.1 h
    simp [hnone]
  | some i =>
    have hi := Store.reservedBuffer_spec h
    have hall : (∀ j, st.buffers.at j = .reserved → st.commits.length ≤ 3) ↔ st.commits.length ≤ 3 :=
      ⟨fun hl => hl i hi, fun hl _ _ => hl⟩
    rw [hall]
    simp only [Option.isSome_some, if_true]
    omega

/-- No more entries, and no buffer newly reserved. -/
theorem Store.Room.of_le {st u : Store} (h : st.Room) (length : u.commits.length ≤ st.commits.length)
    (reserved : ∀ i, u.buffers.at i = .reserved → st.buffers.at i = .reserved) : u.Room := by
  obtain ⟨hocc, hone⟩ := h
  obtain ⟨hfour, hthree⟩ := st.occupancy_le_iff.1 hocc
  refine ⟨u.occupancy_le_iff.2 ⟨length.trans hfour, fun i hi => length.trans (hthree i (reserved i hi))⟩, ?_⟩
  exact fun i j hi hj => hone i j (reserved i hi) (reserved j hj)

/-- Four entries at most, and no buffer reserved. -/
theorem Store.Room.of_none {u : Store} (length : u.commits.length ≤ 4) (none : ∀ i, u.buffers.at i ≠ .reserved) :
    u.Room :=
  ⟨u.occupancy_le_iff.2 ⟨length, fun i hi => absurd hi (none i)⟩, fun i _ hi => absurd hi (none i)⟩

theorem Store.freeBufferOf_reserved {st : Store} {op : CommitOp} {i : Fin 4}
    (h : (st.freeBufferOf op).buffers.at i = .reserved) : st.buffers.at i = .reserved := by
  cases op with
  | erase => exact h
  | write j =>
    change (st.buffers.put j .free).at i = .reserved at h
    rw [Tab.at_put] at h
    split at h
    · cases h
    · exact h

theorem Store.place_reserved {st : Store} {slot : Fin 64} {op : CommitOp} {i : Fin 4}
    (h : (st.place slot op).buffers.at i = .reserved) : st.buffers.at i = .reserved := by
  cases hold : st.waiting slot with
  | some old =>
    rw [Store.place_of_waiting hold] at h
    exact Store.freeBufferOf_reserved h
  | none =>
    rw [Store.place_of_none hold, Store.beginHead_buffers] at h
    exact h

theorem Store.place_length_of_waiting {st : Store} {slot : Fin 64} {old : Commit} (h : st.waiting slot = some old)
    (op : CommitOp) : (st.place slot op).commits.length = st.commits.length := by
  rw [Store.place_of_waiting h]
  exact List.length_map _

theorem Store.place_length_of_none {st : Store} {slot : Fin 64} (h : st.waiting slot = none) (op : CommitOp) :
    (st.place slot op).commits.length = st.commits.length + 1 := by
  rw [Store.place_of_none h, Store.beginHead_length]
  exact List.length_append

theorem Store.place_length_le (st : Store) (slot : Fin 64) (op : CommitOp) :
    (st.place slot op).commits.length ≤ st.commits.length + 1 := by
  cases h : st.waiting slot with
  | some old => rw [Store.place_length_of_waiting h]; omega
  | none => rw [Store.place_length_of_none h]

/-- An entry replaced needs no room, and one appended finds it where the queue is not full (R146, R148). -/
theorem Store.Room.place {st : Store} (h : st.Room) {slot : Fin 64} (op : CommitOp)
    (room : st.waiting slot = none → st.isFull = false) : (st.place slot op).Room := by
  cases hold : st.waiting slot with
  | some old => exact h.of_le (Store.place_length_of_waiting hold op).le fun i => Store.place_reserved
  | none =>
    obtain ⟨-, hone⟩ := h
    refine ⟨(Store.occupancy_le_iff _).2 ?_,
      fun i j hi hj => hone i j (Store.place_reserved hi) (Store.place_reserved hj)⟩
    rw [Store.place_length_of_none hold]
    rcases st.isFull_eq_false.1 (room hold) with hlt | ⟨heq, hnone⟩
    · exact ⟨by omega, fun _ _ => by omega⟩
    · exact ⟨by omega, fun i hi => absurd (Store.place_reserved hi) (hnone i)⟩

/-! ### What a change of the store keeps -/

/-- A change that keeps the queue's form and its room, and reserves no buffer. -/
structure Store.Kept (st u : Store) : Prop where
  form : st.Form → u.Form
  room : st.Room → u.Room
  reserved : ∀ i, u.buffers.at i = .reserved → st.buffers.at i = .reserved

theorem Store.Kept.refl (st : Store) : st.Kept st := ⟨id, id, fun _ => id⟩

theorem Store.freeReserved_ne (st : Store) (i : Fin 4) : st.freeReserved.buffers.at i ≠ .reserved := by
  rw [Store.freeReserved, Tab.at_of]
  split
  · exact nofun
  · assumption

/-- A reserved buffer freed is no entry's (R88, R145). -/
theorem Store.freeReserved_kept (st : Store) : st.Kept st.freeReserved := by
  refine ⟨fun h => h.of_held rfl rfl fun i x hi => ?_, fun h => h.of_le le_rfl fun i hi => ?_, fun i hi => ?_⟩
  · rw [Store.freeReserved, Tab.at_of, hi]
    rfl
  · exact absurd hi (st.freeReserved_ne i)
  · exact absurd hi (st.freeReserved_ne i)

/-- An ERASE placed where the queue has room for it, or a QUEUED entry in whose place it goes (R148, R154). -/
theorem Store.place_erase_kept (st : Store) (slot : Fin 64) (room : st.waiting slot = none → st.isFull = false) :
    st.Kept (st.place slot .erase) :=
  ⟨fun h => h.place nofun, fun h => h.place .erase room, fun _ => Store.place_reserved⟩

/-- A capture goes into the reserved buffer, whose place in the queue its WRITE takes (R146, R147). -/
theorem Store.commitCapture_kept (st : Store) (slot : Fin 64) (c : Capture) : st.Kept (st.commitCapture slot c) := by
  cases hr : st.reservedBuffer with
  | none =>
    rw [Store.commitCapture, hr]
    exact .refl st
  | some i =>
    have hi := Store.reservedBuffer_spec hr
    have hreserved : ∀ j, (st.commitCapture slot c).buffers.at j = .reserved → j ≠ i ∧ st.buffers.at j = .reserved := by
      intro j hj
      rw [Store.commitCapture_of_reserved hr] at hj
      have hput : (st.buffers.put i (.held c)).at j = .reserved := Store.place_reserved hj
      rw [Tab.at_put] at hput
      split at hput
      · cases hput
      · exact ⟨Ne.symm ‹_›, hput⟩
    refine ⟨fun h => ?_, fun h => ?_, fun j hj => (hreserved j hj).2⟩
    · have ⟨_, hown, _⟩ := h
      rw [Store.commitCapture_of_reserved hr]
      refine (h.put (by simp [hi]) (.held c)).place ?_
      rintro _ ⟨⟩
      refine ⟨⟨c, Tab.at_put_same ..⟩, fun f hf hop => ?_⟩
      obtain ⟨x, hx⟩ := hown f hf i hop
      cases hi.symm.trans hx
    · obtain ⟨hocc, hone⟩ := h
      have hthree := (st.occupancy_le_iff.1 hocc).2 i hi
      refine .of_none ?_ fun j hj => (hreserved j hj).1 (hone j i (hreserved j hj).2 hi)
      rw [Store.commitCapture_of_reserved hr]
      exact (Store.place_length_le ..).trans (Nat.succ_le_succ hthree)

/-! ### The end of programming (R151) -/

theorem Store.endProgramming_of_no_head {st : Store} (h : st.writingHead = none) (verified : Bool) :
    st.endProgramming verified = st := by
  unfold Store.writingHead at h
  unfold Store.endProgramming
  split
  · rfl
  · simp_all

/-- The WRITING head's slot takes its contents, the entry leaves and its buffer is free; the next entry has not begun
yet. -/
def Store.headGone (st : Store) (e : Commit) (rest : List Commit) (verified : Bool) : Store :=
  { st with
    slots := st.slots.put e.slot (if verified then st.contentOf e.op else none)
    buffers := (st.freeBufferOf e.op).buffers
    commits := rest
    programming := none }

theorem Store.endProgramming_of_head {st : Store} {e : Commit} {rest : List Commit} (h : st.commits = e :: rest)
    (hw : e.writing = true) (verified : Bool) :
    st.endProgramming verified = (st.headGone e rest verified).beginHead := by
  rw [Store.endProgramming, h]
  dsimp only
  rw [if_pos hw, Store.freeBufferOf_eq, Store.headGone, Store.freeBufferOf_buffers, Store.freeBufferOf_buffers]

/-- The head leaves with its buffer, and the next entry's slot is EMPTY as its programming begins (R149, R151). -/
theorem Store.endProgramming_kept (st : Store) (verified : Bool) : st.Kept (st.endProgramming verified) := by
  cases hhead : st.writingHead with
  | none =>
    rw [Store.endProgramming_of_no_head hhead]
    exact .refl st
  | some e =>
    obtain ⟨hw, rest, hc⟩ := (st.writingHead_eq_some e).1 hhead
    rw [Store.endProgramming_of_head hc hw]
    have hreserved : ∀ i, (st.headGone e rest verified).beginHead.buffers.at i = .reserved →
        st.buffers.at i = .reserved := fun i hi => by
      rw [Store.beginHead_buffers] at hi
      exact Store.freeBufferOf_reserved hi
    refine ⟨fun ⟨hform, hown⟩ => ?_, fun h => h.of_le ?_ hreserved, hreserved⟩
    · obtain ⟨-, hqueued, -, hnodup⟩ := hform e rest hc
      rw [hc] at hown
      exact .beginHead hqueued hnodup hown.freeBufferOf
    · rw [Store.beginHead_length, hc]
      exact Nat.le_succ _

/-! ### Reserving a buffer (R33, R145) -/

theorem Store.Form.reserve {st : Store} (h : st.Form) : st.reserve.Form := by
  by_cases hfree : ∃ i, st.buffers.at i = .free
  · obtain ⟨i, hi, hreserve⟩ := Store.reserve_of_free hfree
    rw [hreserve]
    exact h.put (by simp [hi]) .reserved
  · rwa [Store.reserve_of_none (not_exists.1 hfree)]

/-- With no buffer reserved yet, and the queue not full, a buffer may be. -/
theorem Store.Room.reserve {st : Store} (h : st.Room) (none : ∀ i, st.buffers.at i ≠ .reserved)
    (room : st.isFull = false) : st.reserve.Room := by
  by_cases hfree : ∃ i, st.buffers.at i = .free
  · obtain ⟨i, -, hreserve⟩ := Store.reserve_of_free hfree
    have hi : ∀ j, st.reserve.buffers.at j = .reserved → i = j := fun j hj => by
      by_contra hij
      rw [hreserve] at hj
      exact none j ((Tab.at_put_ne _ _ hij).symm.trans hj)
    have hthree : st.reserve.commits.length ≤ 3 := by
      rw [st.reserve_slots.2]
      rcases st.isFull_eq_false.1 room with hlt | ⟨heq, -⟩ <;> omega
    exact ⟨(Store.occupancy_le_iff _).2 ⟨hthree.trans (by decide), fun _ _ => hthree⟩,
      fun j k hj hk => (hi j hj).symm.trans (hi k hk)⟩
  · rwa [Store.reserve_of_none (not_exists.1 hfree)]

end Sys2Proof.Machine
end

section
/-! SUPPORT. What keeps the store's invariants (`Stocked`): the arbiter, the block boundaries, the hold, and so every
request, every event of a block and every step. -/

namespace Sys2Proof.Machine

/-- The engine holds no test: it is IDLE, or HELD with none parked. -/
def State.Testless (s : State) : Prop := s.eng.state = .idle ∨ (s.eng.state = .held ∧ s.queue.running = none)

theorem occupancyInv_iff (s : State) :
    OccupancyInv s ↔ s.store.Room ∧ (s.Testless → ∀ i, s.store.buffers.at i ≠ .reserved) := and_assoc.symm

/-- What keeps the form of the commit queue and the room in it. -/
structure Stocked (s t : State) : Prop where
  form : StoreInv s → StoreInv t
  occupancy : OccupancyInv s → OccupancyInv t

theorem Stocked.refl (s : State) : Stocked s s := ⟨id, id⟩

theorem Stocked.trans {s t u : State} (h : Stocked s t) (h' : Stocked t u) : Stocked s u :=
  ⟨fun hs => h'.form (h.form hs), fun hs => h'.occupancy (h.occupancy hs)⟩

theorem Stocked.of_eq {s t : State} (h : t = s) : Stocked s t := h ▸ .refl s

/-- The store is changed in form, and the engine comes to hold no test only where it held none, or with no buffer
reserved. -/
theorem Stocked.of_kept {s t : State} (h : s.store.Kept t.store)
    (testless : t.Testless → s.Testless ∨ ∀ i, t.store.buffers.at i ≠ .reserved) : Stocked s t := by
  refine ⟨h.form, fun hs => ?_⟩
  obtain ⟨hroom, hnone⟩ := (occupancyInv_iff s).1 hs
  refine (occupancyInv_iff t).2 ⟨h.room hroom, fun ht => ?_⟩
  rcases testless ht with hs | ht
  · exact fun i hi => hnone hs i (h.reserved i hi)
  · exact ht

/-- The store, the engine's state and the test in hand are as they were. -/
theorem Stocked.quiet {s t : State} (store : t.store = s.store) (state : t.eng.state = s.eng.state)
    (running : t.queue.running = s.queue.running) : Stocked s t := by
  refine .of_kept (store ▸ .refl _) fun ht => .inl ?_
  rwa [State.Testless, state, running] at ht

/-- The store is as it was, and the engine at work on a test. -/
theorem Stocked.busy {s t : State} (store : t.store = s.store) (idle : t.eng.state ≠ .idle)
    (held : t.eng.state ≠ .held) : Stocked s t :=
  .of_kept (store ▸ .refl _) fun ht => ht.elim (absurd · idle) fun hh => absurd hh.1 held

/-- The store is as it was, and a test is RUNNING with the engine not IDLE. -/
theorem Stocked.parked {s t : State} (store : t.store = s.store) (idle : t.eng.state ≠ .idle)
    (running : t.queue.running ≠ none) : Stocked s t :=
  .of_kept (store ▸ .refl _) fun ht => ht.elim (absurd · idle) fun hh => absurd hh.2 running

/-- A reserved buffer is free again. -/
theorem Stocked.freed {s t : State} (store : t.store = s.store.freeReserved) : Stocked s t :=
  .of_kept (store ▸ s.store.freeReserved_kept) fun _ => .inr fun i => store ▸ s.store.freeReserved_ne i

/-- The store alone changes, in form. -/
theorem Stocked.setStore {s : State} {x : Store} (h : s.store.Kept x) : Stocked s (s.setStore x) := .of_kept h .inl

theorem Stocked.setHw (s : State) (x : Highway) : Stocked s (s.setHw x) := .quiet rfl rfl rfl

/-! ### The end of a test (R35, R88) -/

theorem State.testGone_store (s : State) (e : Entry) (x : ResultRecord) (asks : Prop) [Decidable asks] :
    (s.testGone e x asks).store = s.store := by
  unfold State.testGone
  dsimp only
  split
  · rw [State.admitConfirm_store]
    rfl
  · rfl

/-- The end of a test frees a reserved buffer, and changes nothing else of the store. -/
theorem State.endTest_store (s : State) (status : Status) (cause : Option Cause) (r : Report) (full : Bool) :
    (s.endTest status cause r full).store = s.store.freeReserved := by
  have hdiscard : ∀ u : State, u.discardWork.leaveTest.store = u.store.freeReserved := fun u =>
    u.discardWork.leaveTest_store
  cases h : s.queue.running with
  | none => rw [s.endTest_of_none h, hdiscard]
  | some e =>
    obtain ⟨ri, hri⟩ := Option.isSome_iff_exists.1 (TestQueue.running_eq_some h).2
    rw [s.endTest_of_running h hri, hdiscard, State.drain_store, State.testGone_store]

theorem State.cancelTest_stocked (s : State) : Stocked s s.cancelTest := .freed (State.endTest_store ..)

theorem State.abort_stocked (s : State) (c : Cause) : Stocked s (s.abort c) := by
  unfold State.abort
  (repeat' split) <;> exact .freed (State.endTest_store ..)

/-! ### Reports of the selector (R65, R70, R78) -/

/-- A test that is RUNNING is parked, with the store as it was. -/
theorem State.park_stocked {s : State} {e : Entry} (h : s.queue.running = some e) (eng : Engine) (x : ResumePoint) :
    Stocked s ((s.setEng eng).park x) := by
  refine .parked rfl nofun ?_
  change (s.queue.setRun _).running ≠ none
  rw [TestQueue.setRun_running, h]
  exact nofun

theorem State.goOn_stocked (s : State) (ri : RunInfo) : Stocked s (s.goOn ri) := by
  rcases (s.goOn_begun ri).1 with h | h <;> exact .busy (s.goOn_store ri) (by simp [h]) (by simp [h])

theorem State.arrive_stocked (s : State) : Stocked s s.arrive := by
  unfold State.arrive
  split
  · rename_i hr
    split
    · exact .freed (State.endTest_store ..)
    · split
      · exact s.goOn_stocked _
      · exact State.park_stocked hr s.eng _
  · exact .freed (State.endTest_store ..)

theorem State.markRestart_stocked (s : State) : Stocked s s.markRestart := by
  obtain ⟨h, hmark, -⟩ := s.markRestart_eq
  rw [hmark]
  exact .quiet rfl rfl rfl

theorem State.heed_stocked (s : State) (x : SelReport) : Stocked s (s.heed x) := by
  cases x <;> unfold State.heed
  case quiet => exact .refl s
  case rotation => exact s.markRestart_stocked
  case arrival =>
    dsimp only
    split
    · exact s.arrive_stocked
    · exact .refl s
  case failure =>
    dsimp only
    split
    · exact Stocked.trans (t := s.clearMark) (.quiet rfl rfl rfl) (State.abort_stocked ..)
    · exact .refl s
  case disturbed =>
    dsimp only
    split
    · exact s.abort_stocked _
    · exact .refl s
  case lostSettled =>
    dsimp only
    split
    · exact s.abort_stocked _
    · exact s.markRestart_stocked

theorem State.selEvent_stocked (s : State) (x : Selector × SelReport) : Stocked s (s.selEvent x) :=
  Stocked.trans (t := s.setSel x.1) (.quiet rfl rfl rfl) (State.heed_stocked ..)

/-! ### The arbiter (R29, R30, R33) -/

/-- The chosen entry is eligible (R31, R32). -/
theorem State.choose_eligible {s : State} {e : Entry} {pointer : Client} (h : s.choose = some (e, pointer)) :
    s.eligible e = true := by
  have hfind : ∀ (f : Entry → Bool) (x : Entry),
      s.queue.entries.find? (fun e => f e && s.eligible e) = some x → s.eligible x = true := fun f x hx =>
    (Bool.and_eq_true_iff.1 (List.find?_some (p := fun e => f e && s.eligible e) hx)).2
  unfold State.choose at h
  split at h
  · rename_i x hx
    cases h
    exact hfind _ _ hx
  · obtain ⟨c, -, hc⟩ := List.exists_of_findSome?_eq_some h
    obtain ⟨x, hx, ⟨⟩⟩ := Option.map_eq_some_iff.1 hc
    unfold State.turnEntry at hx
    split at hx
    · rename_i y hy
      cases hx
      exact hfind _ _ hy
    · exact hfind _ _ hx

/-- A start reserves a buffer for a BASELINE alone, which is eligible only while the queue is not full (R29, R33). -/
theorem State.prepared_stocked {s : State} (hi : s.eng.state = .idle) {e : Entry} (he : s.eligible e = true)
    (pointer : Client) : Stocked s (s.prepared e pointer) := by
  cases hk : e.kind.isBaseline with
  | false =>
    refine .busy ?_ nofun nofun
    change (if e.kind.isBaseline = true then s.store.reserve else s.store) = s.store
    rw [hk]
    rfl
  | true =>
    have hstore : (s.prepared e pointer).store = s.store.reserve := if_pos hk
    obtain ⟨-, -, hroom⟩ := (s.eligible_iff e).1 he
    obtain ⟨-, hfull⟩ := hroom hk
    refine ⟨fun h => ?_, fun h => ?_⟩
    · rw [storeInv_iff, hstore]
      exact Store.Form.reserve h
    · obtain ⟨hroom, hnone⟩ := (occupancyInv_iff s).1 h
      refine (occupancyInv_iff _).2 ⟨hstore ▸ hroom.reserve (hnone (.inl hi)) hfull, fun ht => ?_⟩
      rcases ht with ht | ⟨ht, -⟩ <;> cases ht

theorem State.arbitrate_stocked (s : State) : Stocked s s.arbitrate := by
  cases hm : s.mayChoose with
  | false => exact .of_eq (State.arbitrate_of_not_mayChoose hm)
  | true =>
    cases hc : s.choose with
    | none => exact .of_eq (State.arbitrate_of_choiceInv fun _ => (s.choose_eq_none_iff).1 hc)
    | some x =>
      obtain ⟨e, pointer⟩ := x
      rw [State.arbitrate_of_choose hm hc, State.startTest_eq]
      exact (State.prepared_stocked ((s.mayChoose_iff).1 hm).1 (State.choose_eligible hc) pointer).trans
        (State.selEvent_stocked ..)

theorem Stocked.arbitrated {s t : State} (h : Stocked s t) : Stocked s t.arbitrate := h.trans t.arbitrate_stocked

/-! ### Block boundaries (R81, R82, R84) -/

theorem State.darkBoundary_stocked (s : State) (sn : Snapshot) (b : Band) : Stocked s (s.darkBoundary sn b) := by
  unfold State.darkBoundary
  dsimp only
  split
  · rename_i hr
    split
    · exact .freed (State.endTest_store ..)
    · split
      · exact State.park_stocked hr _ _
      · exact .busy rfl nofun nofun
  · exact .freed (State.endTest_store ..)

theorem State.drainedBoundary_stocked (s : State) : Stocked s s.drainedBoundary := by
  unfold State.drainedBoundary
  dsimp only
  split
  · rename_i hr
    split
    · exact .freed (State.endTest_store ..)
    · exact State.park_stocked hr _ _
  · exact .freed (State.endTest_store ..)

theorem State.completeBand_stocked (s : State) (sn : Snapshot) (b : Band) (e : Entry) (ri : RunInfo) :
    Stocked s (s.completeBand sn b e ri) := by
  unfold State.completeBand
  dsimp only
  cases b with
  | A => exact .busy rfl nofun nofun
  | B =>
    dsimp only
    split
    · split <;> exact .busy rfl nofun nofun
    · exact .busy rfl nofun nofun

theorem State.laserBoundary_stocked (s : State) (sn : Snapshot) (b : Band) : Stocked s (s.laserBoundary sn b) := by
  unfold State.laserBoundary
  dsimp only
  split
  · split
    · split
      · split <;> exact .freed (State.endTest_store ..)
      · split
        · exact Stocked.trans (t := s.blockAdded) (.quiet rfl rfl rfl) (State.completeBand_stocked ..)
        · exact .busy rfl nofun nofun
    · exact .freed (State.endTest_store ..)
  · exact .freed (State.endTest_store ..)

theorem State.boundary_stocked (s : State) (sn : Snapshot) (b : Band) : Stocked s (s.boundary sn b) := by
  unfold State.boundary
  split
  · exact s.darkBoundary_stocked sn b
  · split
    · exact s.drainedBoundary_stocked
    · exact s.laserBoundary_stocked sn b

/-! ### The hold (R157 to R161) -/

theorem State.joinHold_stocked (s : State) (c : Client) : Stocked s (s.joinHold c) := by
  unfold State.joinHold
  dsimp only
  split
  · exact .refl s
  · split
    · split
      · exact .of_kept (.refl _) fun _ => .inl (.inl ‹_›)
      · exact .busy rfl nofun nofun
      · exact .busy rfl nofun nofun
      · exact .quiet rfl rfl rfl
    · exact .quiet rfl rfl rfl

/-- A HELD engine with no test goes to IDLE, one with a test parked on the way to its port (R160, R161). -/
theorem State.releaseHold_stocked (s : State) : Stocked s s.releaseHold := by
  by_cases hd : s.eng.state = .draining
  · cases hk : s.eng.kind with
    | dark => exact State.releaseHold_of_darkBlock hd hk ▸ .busy rfl nofun nofun
    | laser => exact State.releaseHold_of_laserBlock hd hk ▸ .busy rfl nofun nofun
  · by_cases hh : s.eng.state = .held
    · cases hr : s.queue.running with
      | none =>
        rw [State.releaseHold_of_noTest hh hr]
        exact .of_kept (.refl _) fun _ => .inl (.inr ⟨hh, hr⟩)
      | some e =>
        rw [State.releaseHold_of_held hh hr]
        exact Stocked.trans (t := s.reDriven) (.busy rfl nofun nofun) (State.selEvent_stocked ..)
    · exact .of_eq (State.releaseHold_of_other hd hh)

theorem State.leaveHold_stocked (s : State) (c : Client) : Stocked s (s.leaveHold c) := by
  have hwithout : Stocked s (s.without c) := .quiet rfl rfl rfl
  by_cases h : s.hold.lastIs c
  · rw [State.leaveHold_of_last h]
    exact hwithout.trans (State.releaseHold_stocked _)
  · rwa [State.leaveHold_of_not_last h]

theorem State.drain_stocked (s : State) : Stocked s s.drain := .quiet (by simp) (by simp) (by simp)

/-! ### The requests -/

/-- A request that leaves the store, the engine and the queue as they were. -/
theorem Aside.stocked {s t : State} (h : Aside s t) (store : t.store = s.store) : Stocked s t :=
  .quiet store (by rw [h.eng]) (by rw [h.queue])

theorem doClaim_store (c : Client) (port : Payload) (s : State) : (doClaim c port s).2.store = s.store := by
  unfold doClaim
  (repeat' split) <;> rfl

theorem doSetProfile_store (c : Client) (port : Payload) (f : ProfileWords) (s : State) :
    (doSetProfile c port f s).2.store = s.store := by
  unfold doSetProfile
  split <;> rfl

theorem doGetResult_store (c : Client) (port : Payload) (s : State) : (doGetResult c port s).2.store = s.store := by
  unfold doGetResult
  split <;> rfl

theorem doGetFindings_store (c : Client) (port first : Payload) (s : State) :
    (doGetFindings c port first s).2.store = s.store := by
  unfold doGetFindings
  (repeat' split) <;> rfl

theorem doAckFinding_store (c : Client) (port entry : Payload) (s : State) :
    (doAckFinding c port entry s).2.store = s.store := by
  unfold doAckFinding
  (repeat' split) <;> rfl

theorem doDeleteFinding_store (c : Client) (port entry : Payload) (s : State) :
    (doDeleteFinding c port entry s).2.store = s.store := by
  unfold doDeleteFinding
  (repeat' split) <;> rfl

/-- Three requests of the claimant read, and change nothing (R13, R93, R153, R155). -/
theorem doGetProfile_state (c : Client) (port : Payload) (s : State) : (doGetProfile c port s).2 = s := by
  unfold doGetProfile
  split <;> rfl

theorem doGetTrace_state (c : Client) (source port band first count : Payload) (s : State) :
    (doGetTrace c source port band first count s).2 = s := by
  unfold doGetTrace
  (repeat' split) <;> rfl

theorem doBaselineInfo_state (c : Client) (port : Payload) (s : State) : (doBaselineInfo c port s).2 = s := by
  unfold doBaselineInfo
  split <;> rfl

/-- An ERASE is refused where it would need a place the queue does not have (R154). -/
theorem State.eraseSlot_stocked (s : State) (slot : Fin 64) : Stocked s (s.eraseSlot slot).2 := by
  unfold State.eraseSlot
  split
  · exact .refl s
  · split
    · exact .refl s
    · rename_i hroom
      refine (Stocked.setStore (s.store.place_erase_kept slot fun hnone => ?_)).arbitrated
      by_contra hfull
      refine hroom ⟨?_, by simpa using hfull⟩
      have hnone : s.store.commits.find? (fun e => e.waitsFor slot) = none := hnone
      rw [hnone]
      rfl

theorem doEraseBaseline_stocked (c : Client) (port band : Payload) (s : State) :
    Stocked s (doEraseBaseline c port band s).2 := by
  unfold doEraseBaseline
  split
  · exact .refl s
  · split
    · exact .refl s
    · exact s.eraseSlot_stocked _

theorem doSetClock_stocked (seconds : Payload) (s : State) : Stocked s (doSetClock seconds s).2 := by
  unfold doSetClock
  split
  · exact .refl s
  · exact Stocked.arbitrated (.quiet rfl rfl rfl)

theorem doSetWindow_stocked (c : Client) (start stop : Payload) (s : State) :
    Stocked s (doSetWindow c start stop s).2 := by
  unfold doSetWindow
  split
  · exact .refl s
  · exact Stocked.arbitrated (.quiet rfl rfl rfl)

theorem doHome_stocked (s : State) : Stocked s (doHome s).2 := by
  unfold doHome
  split
  · have hsel : Stocked s (s.setSel (s.sel.beginHoming none)) := .quiet rfl rfl rfl
    exact (hsel.trans (State.markRestart_stocked _)).arbitrated
  · exact .refl s

/-! ### The requests of the test queue -/

/-- A queue with its RUNNING entry kept. -/
theorem Stocked.setQueue {s : State} {q : TestQueue} (h : q.running = s.queue.running) : Stocked s (s.setQueue q) :=
  .quiet rfl rfl h

theorem State.upgradeClear_stocked (s : State) (p : PortNo) :
    Stocked s (s.setQueue ((s.queue.upgrade p).setLatch p false)) := .setQueue (s.queue.upgrade_running p)

theorem State.scheduleNew_stocked (s : State) (c : Client) (p : PortNo) (k : Kind) :
    Stocked s (s.scheduleNew c p k).2 := by
  unfold State.scheduleNew
  split
  · exact .refl s
  · split
    · exact .refl s
    · refine (Stocked.setQueue ?_).arbitrated
      rw [TestQueue.clearLatchFor_running, TestQueue.addEntry_running]

theorem State.scheduleKind_stocked (s : State) (c : Client) (p : PortNo) (k : Kind) :
    Stocked s (s.scheduleKind c p k).2 := by
  unfold State.scheduleKind
  split
  · exact .refl s
  · cases k with
    | routine =>
      dsimp only
      split
      · exact .refl s
      · exact s.scheduleNew_stocked ..
    | urgent =>
      dsimp only
      split
      · exact (s.upgradeClear_stocked p).arbitrated
      · exact s.scheduleNew_stocked ..
    | baseline _ => exact s.scheduleNew_stocked ..
    | confirm => exact s.scheduleNew_stocked ..

theorem doSchedule_stocked (c : Client) (port kind band : Payload) (s : State) :
    Stocked s (doSchedule c port kind band s).2 := by
  unfold doSchedule
  split
  · exact .refl s
  · split
    · exact .refl s
    · exact s.scheduleKind_stocked ..

theorem State.cancelQueued_stocked (s : State) (e : Entry) : Stocked s (s.cancelQueued e) := by
  refine .quiet (by simp [State.cancelQueued]) (by simp [State.cancelQueued]) ?_
  unfold State.cancelQueued State.depart
  split
  · rw [State.drain_running]
    exact TestQueue.drop_queued_running _ fun x hx => by simpa using (Bool.and_eq_true_iff.1 hx).1
  · rfl

theorem State.cancelRunning_stocked (s : State) (ri : RunInfo) : Stocked s (s.cancelRunning ri).2 := by
  have hpending : Stocked s s.setCancelPending := by
    refine .of_kept (.refl _) fun ht => .inl (ht.imp_right fun hh => ⟨hh.1, ?_⟩)
    have hnone : (s.queue.setRun _).running = none := hh.2
    rwa [TestQueue.setRun_running, Option.map_eq_none_iff] at hnone
  unfold State.cancelRunning
  split
  · exact .refl s
  · split
    case h_1 => exact .refl s
    case h_2 => exact Stocked.arbitrated (.freed (State.endTest_store ..))
    all_goals exact hpending

theorem doCancel_stocked (c : Client) (ticket : Payload) (s : State) : Stocked s (doCancel c ticket s).2 := by
  unfold doCancel
  split
  · exact .refl s
  · rename_i e _
    split
    · split
      · exact (s.cancelQueued_stocked e).arbitrated
      · exact s.cancelRunning_stocked _
    · exact .refl s

/-! ### RELEASE and LINK RESET -/

/-- A released port's test ends where it is parked, and its buffer is free; another test goes on (R5, R6). -/
theorem State.releasePort_stocked (s : State) (p : PortNo) : Stocked s (s.releasePort p) := by
  have hstore : (s.releasePort p).store = (s.detachIf p).store := by
    rw [State.releasePort_eq_setQueue]
    rfl
  have hstate : (s.releasePort p).eng.state = (s.detachIf p).eng.state := by
    rw [State.releasePort_eng, Engine.forgetPair_state]
  by_cases hr : s.runsPort p = true
  · have hif : s.detachIf p = s.detach := if_pos hr
    rw [hif] at hstore hstate
    by_cases hh : s.eng.state = .held
    · refine .freed (hstore.trans ?_)
      unfold State.detach
      rw [if_pos hh, State.leaveTest_store]
      rfl
    · rw [State.detach_of_not_held hh] at hstore hstate
      refine .of_kept (hstore ▸ .refl _) fun ht => .inl (.inl ?_)
      rw [State.Testless, hstate] at ht
      exact ht.resolve_right fun hheld => hh hheld.1
  · have hif : s.detachIf p = s := if_neg hr
    rw [hif] at hstore hstate
    refine .of_kept (hstore ▸ .refl _) fun ht => .inl ?_
    rw [State.Testless, hstate, State.releasePort_running, TestQueue.running_eq_none] at ht
    refine ht.imp_right fun ⟨hheld, hnone⟩ => ⟨hheld, ?_⟩
    by_contra hrun
    obtain ⟨e, he⟩ := Option.ne_none_iff_exists'.1 hrun
    obtain ⟨hmem, hsome⟩ := TestQueue.running_eq_some he
    have hport : e.port ≠ p := fun hp => hr ((s.runsPort_iff p).2 ⟨e, he, hp⟩)
    have hgone := hnone e ((s.queue.mem_drop _ e).2 ⟨hmem, decide_eq_false hport⟩)
    rw [hgone] at hsome
    cases hsome

theorem doRelease_stocked (c : Client) (port : Payload) (s : State) : Stocked s (doRelease c port s).2 := by
  unfold doRelease
  split
  · exact .refl s
  · exact (s.releasePort_stocked _).arbitrated

theorem doLinkReset_stocked (c : Client) (s : State) : Stocked s (doLinkReset c s).2 := by
  have hlink : Stocked s (s.setLink c (s.link c).clearFlags) := .setHw ..
  have hcancel : ∀ t : State, Stocked t (t.cancelAll c) := fun t =>
    .quiet (by rw [State.cancelAll_eq]; rfl) (by rw [State.cancelAll_eq]; rfl) (t.cancelAll_running_eq c)
  have hdrain : ∀ t u : State, Stocked u (t.drainAfterReset u c) := fun t u => by
    unfold State.drainAfterReset
    split
    · exact u.drain_stocked
    · exact .refl u
  exact (((hlink.trans (hcancel _)).trans (State.leaveHold_stocked _ c)).trans (hdrain ..)).arbitrated

/-- Every request's effect keeps the store's invariants. -/
theorem handle_stocked (c : Client) (r : Request) (s : State) : Stocked s (handle c r s).2 := by
  cases r
  case claim => exact (doClaim_aside ..).stocked (doClaim_store ..)
  case release => exact doRelease_stocked ..
  case setProfile => exact (doSetProfile_aside ..).stocked (doSetProfile_store ..)
  case getProfile => exact .of_eq (doGetProfile_state ..)
  case getResult => exact (doGetResult_aside ..).stocked (doGetResult_store ..)
  case schedule => exact doSchedule_stocked ..
  case cancel => exact doCancel_stocked ..
  case listQueue => exact .refl s
  case setWindow => exact doSetWindow_stocked ..
  case setClock => exact doSetClock_stocked ..
  case home => exact doHome_stocked s
  case getTrace => exact .of_eq (doGetTrace_state ..)
  case getFindings => exact (doGetFindings_aside ..).stocked (doGetFindings_store ..)
  case ackFinding => exact (doAckFinding_aside ..).stocked (doAckFinding_store ..)
  case deleteFinding => exact (doDeleteFinding_aside ..).stocked (doDeleteFinding_store ..)
  case baselineInfo => exact .of_eq (doBaselineInfo_state ..)
  case eraseBaseline => exact doEraseBaseline_stocked ..
  case hold => exact s.joinHold_stocked c
  case resume =>
    change Stocked s (s.resumeFrom c)
    unfold State.resumeFrom
    split
    · exact (s.leaveHold_stocked c).arbitrated
    · exact .refl s
  case status => exact .setHw ..
  case linkReset => exact doLinkReset_stocked c s

/-! ### The events of the blocks -/

theorem State.tick_stocked (s : State) : Stocked s s.tick := by
  unfold State.tick
  split
  · exact .refl s
  · dsimp only
    split
    · exact Stocked.arbitrated (.quiet rfl rfl rfl)
    · exact .quiet rfl rfl rfl

/-- A QUEUED ROUTINE leaves for the URGENT of an edge (R38). -/
theorem State.evictFor_stocked (s : State) (p : PortNo) (c : Client) (e : Entry) :
    Stocked s ((s.evict e).admitLos p c) := by
  refine .quiet rfl rfl ?_
  rw [State.admitLos, State.setQueue_queue, TestQueue.setLatch_running, TestQueue.addEntry_running]
  exact TestQueue.drop_queued_running _ fun x hx => by simpa using (Bool.and_eq_true_iff.1 hx).1

theorem State.takeLos_stocked (s : State) (p : PortNo) (c : Client) : Stocked s (s.takeLos p c) := by
  have hlatch : Stocked s (s.setQueue (s.queue.setLatch p true)) := .setQueue rfl
  have hadmit : Stocked s (s.admitLos p c) := .setQueue (TestQueue.addEntry_running ..)
  unfold State.takeLos
  split
  · exact .refl s
  split
  · exact (s.upgradeClear_stocked p).arbitrated
  split
  · exact hlatch
  split
  · split
    · exact (s.evictFor_stocked p c _).arbitrated
    · exact hlatch
  · exact hadmit.arbitrated

theorem State.losEdge_stocked (s : State) (p : PortNo) : Stocked s (s.losEdge p) := by
  unfold State.losEdge
  split
  · exact .refl s
  · split
    · exact s.takeLos_stocked p _
    · exact .refl s

theorem State.endShot_stocked (s : State) (x : Samples) : Stocked s (s.endShot x) := by
  unfold State.endShot
  split
  · rename_i sn b _ _
    split
    · dsimp only
      split
      · have hadded : Stocked s (s.setEng { s.eng.addShot (shotSamples x sn.points) with counter := 0 }) :=
          .quiet rfl (s.eng.addShot_state _) rfl
        exact (hadded.trans (State.boundary_stocked ..)).arbitrated
      · exact .quiet rfl (s.eng.addShot_state _) rfl
    · exact .refl s
  · exact .refl s

/-- A BASELINE test that completes commits its capture; every test that ends leaves no buffer reserved (R88, R147). -/
theorem State.completeTest_stocked (s : State) (sn : Snapshot) (e : Entry) : Stocked s (s.completeTest sn e) := by
  unfold State.completeTest
  dsimp only
  split
  · split
    · exact (Stocked.setStore (s.store.commitCapture_kept ..)).trans (.freed (State.endTest_store ..))
    · exact .freed (State.endTest_store ..)
  · refine .freed ((State.endTest_store ..).trans (congrArg Store.freeReserved ?_))
    rw [State.foldReport_eq s sn e _ rfl]
    rfl

theorem State.analysisExpires_stocked (s : State) : Stocked s s.analysisExpires := by
  unfold State.analysisExpires
  split
  · split
    · exact (s.completeTest_stocked ..).arbitrated
    · exact s.cancelTest_stocked.arbitrated
  · exact .refl s

theorem State.raiseStore_stocked (s : State) (slot : Fin 64) : Stocked s (s.raiseStore slot) := by
  unfold State.raiseStore
  split
  · exact .setHw ..
  · exact .refl s

theorem State.programmed_stocked (s : State) (r : ReadBack) : Stocked s (s.programmed r) := by
  unfold State.programmed
  dsimp only
  split
  · exact .refl s
  · rename_i e _
    have hended := Stocked.setStore (s.store.endProgramming_kept (s.store.verifies e.op r))
    refine Stocked.arbitrated ?_
    split
    · exact hended
    · exact hended.trans (State.raiseStore_stocked ..)

theorem State.holdExpired_stocked (s : State) : Stocked s s.holdExpired := by
  unfold State.holdExpired
  split
  · have htimer : Stocked s (s.setHold { s.hold with timer := none }) := .quiet rfl rfl rfl
    exact htimer.trans (State.markRestart_stocked _)
  · exact .refl s

/-- Power-on leaves the commit queue empty and every buffer free (R145, R146). -/
theorem State.powerOn_stocked (s : State) : Stocked s s.powerOn := by
  have hfree : ∀ i, s.powerOn.store.buffers.at i = .free := fun i => Tab.at_all 4 _ i
  have hnone : ∀ i, s.powerOn.store.buffers.at i ≠ .reserved := fun i => by
    rw [hfree i]
    exact nofun
  exact ⟨fun _ => Store.Form.of_empty rfl,
    fun _ => (occupancyInv_iff _).2 ⟨.of_none (Nat.zero_le 4) hnone, fun _ => hnone⟩⟩

/-- Whatever a command does keeps the store's invariants. -/
theorem Occurs.stocked {s t : State} (h : Occurs s t) : Stocked s t := by
  cases h with
  | highway x => exact .setHw s x
  | request c r x y => exact ((Stocked.setHw s x).trans (handle_stocked c r _)).trans (.setHw _ y)
  | powerOn => exact s.powerOn_stocked
  | tick => exact s.tick_stocked
  | losEdge p => exact s.losEdge_stocked p
  | selector x => exact (s.selEvent_stocked x).arbitrated
  | shot x => exact s.endShot_stocked x
  | analysis => exact s.analysisExpires_stocked
  | programmed r => exact s.programmed_stocked r
  | holdExpired => exact s.holdExpired_stocked

theorem step_stocked {s t : State} (h : step s = .next t) : Stocked s t := by
  rcases step_occurs h with rfl | ⟨rest, h⟩
  · exact .refl t
  · exact Stocked.trans (t := s.setPending rest) (.quiet rfl rfl rfl) h.stocked

end Sys2Proof.Machine

open Sys2Proof
open Sys2Proof.Machine

/-- Settles O58: whatever a command does changes the store in form and within its room, and the engine comes to hold no
test only with no buffer reserved. -/
theorem everyStepKeepsTheStore : Obligations.EveryStepKeepsTheStore := fun _ _ h =>
  ⟨fun hs _ => (step_stocked h).form hs, fun _ => (step_stocked h).occupancy⟩
end

section
/-! SUPPORT. PROGRAMMING_END (R149 to R151): the verify by the head's operation, and what the end of programming makes
of the store and of the links. -/

namespace Sys2Proof.Machine

/-- A WRITE's verify: the memory returns what the buffer holds (R151). -/
theorem Store.verifies_write (st : Store) (i : Fin 4) (r : ReadBack) :
    st.verifies (.write i) r = true ↔ ∃ k, st.buffers.at i = .held k ∧ r = .valid k := by
  simp [Store.verifies_iff]

/-- An ERASE's verify: the memory returns a header reading EMPTY (R151). -/
theorem Store.verifies_erase (st : Store) (r : ReadBack) : st.verifies .erase r = true ↔ r = .empty := by
  simp [Store.verifies_iff]

theorem Store.contentOf_held {st : Store} {i : Fin 4} {k : Capture} (h : st.buffers.at i = .held k) :
    st.contentOf (.write i) = some k := by
  simp only [Store.contentOf, h]

theorem Store.contentOf_erase (st : Store) : st.contentOf .erase = none := rfl

theorem Store.writingHead_eq_none {st : Store} (h : ∀ e rest, st.commits = e :: rest → e.writing = false) :
    st.writingHead = none := by
  cases hhead : st.writingHead with
  | none => rfl
  | some e =>
    obtain ⟨hw, rest, hc⟩ := (st.writingHead_eq_some e).1 hhead
    cases (h e rest hc).symm.trans hw

theorem exec_programmingEnd (r : ReadBack) (s : State) : exec (.programmingEnd r) s = .next (s.programmed r) := rfl

theorem State.programmed_of_no_head {s : State} (h : s.store.writingHead = none) (r : ReadBack) :
    s.programmed r = s := by
  rw [State.programmed, h]

/-- The STORE flag is set on the link of the port's claimant, if there is one (R151). -/
theorem State.raiseStore_of_unclaimed {s : State} {slot : Fin 64} (h : (s.port (slotPort slot)).claimant = none) :
    s.raiseStore slot = s := by
  rw [State.raiseStore, h]

theorem State.raiseStore_of_claimed {s : State} {slot : Fin 64} {c : Client}
    (h : (s.port (slotPort slot)).claimant = some c) :
    s.raiseStore slot = s.setHw { s.hw with links := s.hw.links.put c { s.link c with store := true } } := by
  rw [State.raiseStore, h]
  rfl

/-- The WRITING head leaves, the next entry begins, and a failed verify is flagged for the port's claimant (R151). -/
theorem State.programmed_of_head {s : State} {e : Commit} {rest : List Commit} (hc : s.store.commits = e :: rest)
    (hw : e.writing = true) {r : ReadBack} {v : Bool} (hv : s.store.verifies e.op r = v) :
    ∃ y : Highway, s.programmed r = ((s.setStore (s.store.headGone e rest v).beginHead).setHw y).arbitrate ∧
      (v = true ∨ (s.port (slotPort e.slot)).claimant = none → y = s.hw) ∧
      ∀ c, v = false → (s.port (slotPort e.slot)).claimant = some c →
        y = { s.hw with links := s.hw.links.put c { s.link c with store := true } } := by
  have hhead : s.store.writingHead = some e := (s.store.writingHead_eq_some e).2 ⟨hw, rest, hc⟩
  have hprog : s.programmed r = (if v then s.setStore (s.store.headGone e rest v).beginHead
      else (s.setStore (s.store.headGone e rest v).beginHead).raiseStore e.slot).arbitrate := by
    rw [State.programmed, hhead]
    dsimp only
    rw [hv, Store.endProgramming_of_head hc hw]
  rw [hprog]
  cases v with
  | true => exact ⟨s.hw, rfl, fun _ => rfl, nofun⟩
  | false =>
    cases hclaim : (s.port (slotPort e.slot)).claimant with
    | none =>
      refine ⟨s.hw, ?_, fun _ => rfl, nofun⟩
      exact congrArg State.arbitrate (State.raiseStore_of_unclaimed (s := s.setStore _) hclaim)
    | some c =>
      refine ⟨{ s.hw with links := s.hw.links.put c { s.link c with store := true } }, ?_, by simp, ?_⟩
      · exact congrArg State.arbitrate (State.raiseStore_of_claimed (s := s.setStore _) hclaim)
      · rintro _ _ ⟨⟩
        rfl

end Sys2Proof.Machine

open Sys2Proof
open Sys2Proof.Machine

/-- Settles O54: the verify decides what the head's slot takes; `Store.headGone` is the store before the next entry
begins. -/
theorem programmingEndTakesTheHead : Obligations.ProgrammingEndTakesTheHead := by
  refine fun s r => ⟨fun h => ?_, ?_⟩
  · rw [exec_programmingEnd, State.programmed_of_no_head (Store.writingHead_eq_none h)]
  · rintro e rest st x ok hc hw hinv hwrite herase hfailed hpassedErase hpassedWrite rfl
    obtain ⟨hform, hheld, -⟩ := hinv
    obtain ⟨-, hqueued, -⟩ := hform e rest hc
    have hok : s.store.verifies e.op r = true ↔ ok := by
      cases hop : e.op with
      | write i => rw [Store.verifies_write, hwrite i hop]
      | erase => rw [Store.verifies_erase, herase hop]
    have hx : (if s.store.verifies e.op r then s.store.contentOf e.op else none) = x := by
      split
      · rename_i hv
        cases hop : e.op with
        | write i =>
          obtain ⟨k, hk⟩ := hheld e (hc ▸ List.mem_cons_self) i hop
          rw [Store.contentOf_held hk, hpassedWrite i k (hok.1 hv) hop hk]
        | erase => rw [Store.contentOf_erase, hpassedErase (hok.1 hv) hop]
      · rename_i hv
        exact (hfailed fun h => hv (hok.2 h)).symm
    obtain ⟨y, hprog, hkept, hraised⟩ := State.programmed_of_head (r := r) hc hw rfl
    rw [Store.headGone, Store.freeBufferOf_buffers, hx] at hprog
    refine ⟨_, y, exec_programmingEnd r s ▸ congrArg _ hprog, fun hempty => Store.beginHead_of_empty hempty,
      fun f more hmore => ?_, fun h => hkept (h.imp_left hok.2), fun c hno => hraised c ?_⟩
    · exact Store.beginHead_of_queued hmore (hqueued f (hmore ▸ List.mem_cons_self))
    · simpa [← hok] using hno
end

section
/-! SUPPORT. BASELINE INFO, reads through the queue, and ERASE BASELINE (R148, R150, R152 to R154). -/

namespace Sys2Proof.Machine

/-! ### The words of BASELINE INFO (R143, R153) -/

theorem headerBody_some (k : Capture) :
    headerBody (some k) =
      [1#30, num k.port.val, (match k.band with | .A => 0#30 | .B => 1#30), num k.points, num k.period, num k.pulse,
        num k.averages, num k.groupIndex, num k.endIndex, num k.dark, num k.ticket, optNum k.time] := by
  have hband : num (bandCode k.band) = (match k.band with | .A => 0#30 | .B => 1#30) := by cases k.band <;> rfl
  rw [headerBody, hband]
  rfl

theorem Commit.body_eq (e : Commit) :
    e.body = [(match e.op with | .write _ => 0#30 | .erase => 1#30), flag e.writing] := by
  obtain ⟨slot, op, writing⟩ := e
  cases op <;> rfl

/-- The words of an entry place, an entry in it or none (R153). -/
def placeBody (x : Option Commit) : List Payload :=
  match x with
  | some e => e.body
  | none => [absent, absent]

theorem commitPlaces_eq (es : List Commit) : commitPlaces es = placeBody es[0]? ++ placeBody es[1]? := by
  match es with
  | [] => rfl
  | [_] => rfl
  | _ :: _ :: _ => rfl

/-! ### Reads (R152) -/

theorem Store.servingEntry_mem {st : Store} {slot : Fin 64} {e : Commit} (h : st.servingEntry slot = some e) :
    e ∈ st.commits ∧ e.slot = slot := by
  unfold Store.servingEntry at h
  split at h
  · rename_i x hx
    cases h
    have hslot := List.find?_some hx
    simp only [Bool.and_eq_true, decide_eq_true_eq] at hslot
    exact ⟨List.mem_of_find?_eq_some hx, hslot.1⟩
  · exact ⟨List.mem_of_find?_eq_some h, by simpa using List.find?_some h⟩

theorem Store.servingEntry_isSome {st : Store} {e : Commit} (h : e ∈ st.commits) :
    (st.servingEntry e.slot).isSome = true := by
  unfold Store.servingEntry
  split
  · rfl
  · exact List.find?_isSome.2 ⟨e, h, decide_eq_true rfl⟩

/-- A read is served from the QUEUED entry for the slot, or from the only one (R152). -/
theorem Store.HeadWrites.read_of_mem {st : Store} (h : st.HeadWrites) {e : Commit} (he : e ∈ st.commits)
    (serves : e.writing = false ∨ ∀ f ∈ st.commits, f.slot = e.slot → f = e) :
    st.read e.slot = st.contentOf e.op := by
  have hserving : st.servingEntry e.slot = some e := by
    rcases serves with hq | honly
    · have hwaiting : st.commits.find? (fun f => decide (f.slot = e.slot) && !f.writing) = some e :=
        h.waiting_of_mem he hq
      rw [Store.servingEntry, hwaiting]
    · obtain ⟨f, hf⟩ := Option.isSome_iff_exists.1 (Store.servingEntry_isSome he)
      obtain ⟨hmem, hslot⟩ := Store.servingEntry_mem hf
      rw [hf, honly f hmem hslot]
  rw [Store.read, hserving]

/-- Without an entry for the slot a read is served from the memory (R152). -/
theorem Store.read_of_no_entry {st : Store} {slot : Fin 64} (h : ∀ e ∈ st.commits, e.slot ≠ slot) :
    st.read slot = st.slots.at slot := by
  have hnone : st.servingEntry slot = none := by
    rw [Option.eq_none_iff_forall_ne_some]
    intro e he
    obtain ⟨hmem, hslot⟩ := Store.servingEntry_mem he
    exact h e hmem hslot
  rw [Store.read, hnone]

/-! ### The placing written out (R148) -/

theorem Store.replaced_eq (st : Store) (slot : Fin 64) (op : CommitOp) :
    st.replaced slot op =
      st.commits.map (fun e => if e.slot = slot ∧ e.writing = false then { e with op := op } else e) := by
  simp only [Store.replaced, Commit.waitsFor_iff]

/-! ### ERASE BASELINE (R154) -/

section
variable {s : State} {slot : Fin 64}

theorem State.eraseSlot_of_empty (h : s.store.read slot = none) : s.eraseSlot slot = (.plain .ok, s) := if_pos h

variable (h : s.store.read slot ≠ none)
include h

theorem State.eraseSlot_of_waiting {e : Commit} (he : s.store.waiting slot = some e) :
    s.eraseSlot slot = (.plain .ok, (s.setStore (s.store.place slot .erase)).arbitrate) := by
  have he : s.store.commits.find? (fun e => e.waitsFor slot) = some e := he
  rw [State.eraseSlot, if_neg h, he, if_neg fun hfull => Bool.noConfusion hfull.1]

theorem State.eraseSlot_full (hnone : s.store.waiting slot = none) (hfull : 4 ≤ s.store.occupancy) :
    s.eraseSlot slot = (.plain .full, s) := by
  have hnone : s.store.commits.find? (fun e => e.waitsFor slot) = none := hnone
  rw [State.eraseSlot, if_neg h, hnone]
  exact if_pos ⟨rfl, decide_eq_true hfull⟩

theorem State.eraseSlot_of_room (hroom : s.store.occupancy < 4) :
    s.eraseSlot slot = (.plain .ok, (s.setStore (s.store.place slot .erase)).arbitrate) := by
  have hfull : s.store.isFull = false := decide_eq_false (Nat.not_le.2 hroom)
  rw [State.eraseSlot, if_neg h, hfull]
  exact if_neg fun hf => Bool.noConfusion hf.2

end

/-! ### The requests of the claimant -/

section
variable {s : State} {c : Client} {port : Payload} {p : PortNo} (hport : port.toNat = p.val)
  (hclaim : (s.port p).claimant = some c)
include hport hclaim

theorem doBaselineInfo_owned :
    doBaselineInfo c port s =
      ({ code := .ok
         body := [num s.store.commits.length, num s.store.freeCount] ++ s.slotInfo p .A ++ s.slotInfo p .B }, s) := by
  simp only [doBaselineInfo, ownedPort_of_claimant s c port p hport hclaim]

theorem doEraseBaseline_badValue {band : Payload} (hb : 2 ≤ band.toNat) :
    doEraseBaseline c port band s = (.plain .badValue, s) := by
  simp only [doEraseBaseline, ownedPort_of_claimant s c port p hport hclaim, bandOf_eq_none band hb]

theorem doEraseBaseline_owned {band : Payload} {b : Band} (hb : b = .A ∧ band.toNat = 0 ∨ b = .B ∧ band.toNat = 1) :
    doEraseBaseline c port band s = s.eraseSlot (slotOf p b) := by
  simp only [doEraseBaseline, ownedPort_of_claimant s c port p hport hclaim, bandOf_of_val band b hb]

end

end Sys2Proof.Machine

open Sys2Proof
open Sys2Proof.Machine

/-- Settles O53: the words by their definitions; a read is served by `Store.servingEntry`; `State.eraseSlot` decides by
what the slot reads, the entry that waits for it, and the occupancy. -/
theorem baselineInfoAndEraseActOnTheStore : Obligations.BaselineInfoAndEraseActOnTheStore := by
  refine ⟨⟨rfl, headerBody_some⟩, fun es place hplace => ?_, fun st slot op => ⟨fun old hold => ?_, ?_,
    fun hempty => Store.place_of_empty hempty slot op⟩, ?_⟩
  · have hbody : ∀ x, place x = placeBody x := fun x => by
      rw [hplace]
      cases x with
      | none => rfl
      | some e => exact e.body_eq.symm
    rw [commitPlaces_eq, hbody, hbody]
  · have hplace := Store.place_of_waiting hold op
    rwa [Store.freeBufferOf_buffers, Store.replaced_eq] at hplace
  · intro e rest hc hw hrest
    refine Store.place_behind ((st.waiting_eq_none slot).2 ?_) hc hw op
    rw [hc]
    exact List.forall_mem_cons.2 ⟨fun _ => hw, hrest⟩
  · intro s c tag port band p h hport hclaim
    refine ⟨?_, fun slot hinv => ?_, ?_⟩
    · obtain ⟨hanswer, hstate⟩ := State.takeRequest_of_handle (r := .baselineInfo port) tag h nofun nofun rfl
        (doBaselineInfo_owned hport hclaim)
      refine ⟨_, rfl, hstate, s.slotInfo p, hanswer, ?_⟩
      rintro b _ rfl
      rfl
    · obtain ⟨hhead, -⟩ := (storeInv_iff s).1 hinv
      refine ⟨?_, Store.read_of_no_entry⟩
      rintro e he rfl hserves
      rw [hhead.read_of_mem he hserves]
      exact ⟨fun hop => hop ▸ Store.contentOf_erase _, fun i k hop hk => hop ▸ Store.contentOf_held hk⟩
    · have herase : ∀ {x u}, doEraseBaseline c port band s = (x, u) → _ := fun hu =>
        State.takeRequest_of_handle (r := .eraseBaseline port band) tag h nofun nofun rfl hu
      refine ⟨_, rfl, fun hbad => herase (doEraseBaseline_badValue hport hclaim hbad), ?_⟩
      rintro b _ hband rfl
      have howned := doEraseBaseline_owned hport hclaim hband
      refine ⟨fun hempty => herase (howned.trans (State.eraseSlot_of_empty hempty)), fun hread hinv => ?_⟩
      obtain ⟨hhead, -⟩ := (storeInv_iff s).1 hinv
      refine ⟨fun e i he hslot hq hop => ?_, fun hwriting => ?_⟩
      · have hwaiting := hslot ▸ hhead.waiting_of_mem he hq
        have hanswer := herase (howned.trans (State.eraseSlot_of_waiting hread hwaiting))
        rwa [Store.place_of_waiting hwaiting, Store.freeBufferOf_buffers, hop, Store.replaced_eq] at hanswer
      · have hnone := (s.store.waiting_eq_none _).2 hwriting
        refine ⟨fun hfull => herase (howned.trans (State.eraseSlot_full hread hnone hfull)), fun hroom => ?_⟩
        obtain ⟨hanswer, hstate⟩ := herase (howned.trans (State.eraseSlot_of_room hread hroom))
        refine ⟨hanswer, fun hcommits => ?_, fun hempty => ?_⟩
        · obtain ⟨e, rest, hc⟩ := List.exists_cons_of_ne_nil hcommits
          obtain ⟨hw, -⟩ := hhead e rest hc
          rwa [Store.place_behind hnone hc hw] at hstate
        · rwa [Store.place_of_empty hempty] at hstate
end
section
/-! SUPPORT. The words of the highway (R167): the fields of a request's header and of a DATA word, and the codes and
lengths that 11.6 lists. -/

namespace Sys2Proof

open Machine (toNat_of_field requestOf_eq_some)

/-! ### The type of a word -/

theorem wordType_eq_header (w : Word) : wordType w = .header ↔ w.extractLsb' 30 2 = 1#2 := by
  unfold wordType
  split
  · simp_all
  · split <;> simp_all

theorem wordType_eq_data (w : Word) : wordType w = .data ↔ w.extractLsb' 30 2 = 2#2 := by
  unfold wordType
  split
  · simp_all
  · split <;> simp_all

/-- Of the four values of the type bits, the two that are neither HEADER nor DATA are IDLE inbound (R167). -/
theorem wordType_eq_idle (w : Word) :
    wordType w = .idle ↔ w.extractLsb' 30 2 = 0#2 ∨ w.extractLsb' 30 2 = 3#2 := by
  have hbits : ∀ b : BitVec 2, (b ≠ 1#2 ∧ b ≠ 2#2) ↔ (b = 0#2 ∨ b = 3#2) := by decide
  rw [← hbits, ne_eq, ne_eq, ← wordType_eq_header, ← wordType_eq_data]
  cases wordType w <;> simp

/-! ### The fields of a word -/

section
variable (length code : Nat) (tag : Tag)

@[simp] theorem wordType_requestHeader : wordType (requestHeader length code tag) = .header := by
  rw [wordType_eq_header, requestHeader]
  iterate 4 rw [BitVec.extractLsb'_append_eq_of_le (by decide)]
  rfl

@[simp] theorem headerTag_requestHeader : headerTag (requestHeader length code tag) = tag :=
  BitVec.extractLsb'_append_eq_right

variable {length code}

/-- A header shows a message length of 1 to 16 (R167). -/
theorem headerLength_requestHeader (h1 : 1 ≤ length) (h16 : length ≤ 16) :
    headerLength (requestHeader length code tag) = length := by
  have hfield : (requestHeader length code tag).extractLsb' 26 4 = BitVec.ofNat 4 (length - 1) := by
    rw [requestHeader]
    iterate 3 rw [BitVec.extractLsb'_append_eq_of_le (by decide)]
    exact BitVec.extractLsb'_append_eq_right
  rw [headerLength, toNat_of_field hfield (by omega), Nat.sub_add_cancel h1]

/-- A header shows a code below 32 (R167). -/
theorem headerCode_requestHeader (h : code < 32) : headerCode (requestHeader length code tag) = code := by
  have hfield : (requestHeader length code tag).extractLsb' 21 5 = BitVec.ofNat 5 code := by
    rw [requestHeader]
    iterate 2 rw [BitVec.extractLsb'_append_eq_of_le (by decide)]
    exact BitVec.extractLsb'_append_eq_right
  exact toNat_of_field hfield h

end

@[simp] theorem wordType_dataWord (x : Payload) : wordType (dataWord x) = .data := by
  rw [wordType_eq_data, dataWord, BitVec.extractLsb'_append_eq_of_le (by decide)]
  rfl

@[simp] theorem wordPayload_dataWord (x : Payload) : wordPayload (dataWord x) = x := BitVec.extractLsb'_append_eq_right

/-! ### The codes and lengths of 11.6 -/

/-- The request codes of 11.6, each with the length of its message. -/
def requestShapes : List (Nat × Nat) :=
  [(1, 2), (2, 2), (3, 16), (4, 2), (5, 2), (6, 4), (7, 2), (8, 1), (9, 3), (10, 2), (11, 1), (12, 6), (13, 3),
    (14, 3), (15, 3), (16, 2), (17, 3), (18, 1), (19, 1), (20, 1), (21, 1)]

theorem noParams_isSome (r : Request) (ps : List Payload) : (noParams r ps).isSome = true ↔ ps.length = 0 := by
  rcases ps with _ | ⟨_, _⟩ <;> simp [noParams]

theorem oneParam_isSome (f : Payload → Request) (ps : List Payload) :
    (oneParam f ps).isSome = true ↔ ps.length = 1 := by
  rcases ps with _ | ⟨_, _ | ⟨_, _⟩⟩ <;> simp [oneParam]

theorem twoParams_isSome (f : Payload → Payload → Request) (ps : List Payload) :
    (twoParams f ps).isSome = true ↔ ps.length = 2 := by
  rcases ps with _ | ⟨_, _ | ⟨_, _ | ⟨_, _⟩⟩⟩ <;> simp [twoParams]

theorem scheduleParams_isSome (ps : List Payload) : (scheduleParams ps).isSome = true ↔ ps.length = 3 := by
  constructor <;> intro h
  · unfold scheduleParams at h
    split at h
    · rfl
    · cases h
  · match ps, h with
    | [_, _, _], _ => rfl

theorem traceParams_isSome (ps : List Payload) : (traceParams ps).isSome = true ↔ ps.length = 5 := by
  constructor <;> intro h
  · unfold traceParams at h
    split at h
    · rfl
    · cases h
  · match ps, h with
    | [_, _, _, _, _], _ => rfl

theorem profileParams_isSome (ps : List Payload) : (profileParams ps).isSome = true ↔ ps.length = 15 := by
  constructor <;> intro h
  · unfold profileParams at h
    split at h
    · rfl
    · cases h
  · match ps, h with
    | [_, _, _, _, _, _, _, _, _, _, _, _, _, _, _], _ => rfl

/-- A code and parameters stand for a request exactly when 11.6 lists the code with their number (R171 case 3). -/
theorem requestOf_isSome (code : Nat) (ps : List Payload) :
    (requestOf code ps).isSome = true ↔ (code, ps.length + 1) ∈ requestShapes := by
  unfold requestOf
  split <;> simp_all [requestShapes, noParams_isSome, oneParam_isSome, twoParams_isSome, scheduleParams_isSome,
    traceParams_isSome, profileParams_isSome]

theorem requestOf_wire (r : Request) : requestOf r.code r.wire.2 = some r := (requestOf_eq_some _ _ r).2 rfl

theorem Request.shape_mem (r : Request) : (r.code, r.length) ∈ requestShapes :=
  (requestOf_isSome r.code r.wire.2).1 (by rw [requestOf_wire]; rfl)

/-- The codes lie below 32 and the lengths between 1 and 16, so that a header's fields hold them (R167). -/
theorem requestShapes_fit : ∀ x ∈ requestShapes, x.1 < 32 ∧ 1 ≤ x.2 ∧ x.2 ≤ 16 := by decide

/-! ### The words of a message -/

theorem messageWellFormed_cons (h : Word) (rest : List Word) :
    messageWellFormed (h :: rest) = true ↔
      wordType h = .header ∧ headerLength h = rest.length + 1 ∧ ∀ w ∈ rest, wordType w = .data := by
  simp [messageWellFormed, and_assoc]

/-- A request's words are one message of the listed length (R167, 11.6). -/
theorem Request.words_wellFormed (r : Request) (tag : Tag) : messageWellFormed (r.words tag) = true := by
  obtain ⟨-, h1, h16⟩ := requestShapes_fit _ r.shape_mem
  rw [Request.words, messageWellFormed_cons]
  exact ⟨wordType_requestHeader .., by rw [headerLength_requestHeader tag h1 h16, List.length_map]; rfl, by simp⟩

/-- A request is read back from its words (R167). -/
theorem Request.decode_words (r : Request) (tag : Tag) : decodeMessage (r.words tag) = some r := by
  obtain ⟨hcode, -, -⟩ := requestShapes_fit _ r.shape_mem
  have hparams : (r.wire.2.map dataWord).map wordPayload = r.wire.2 := by simp [Function.comp_def]
  rw [Request.words, decodeMessage, headerCode_requestHeader tag hcode, hparams, requestOf_wire]

/-- A message is MALFORMED exactly when 11.6 does not list its code with its length (R171 case 3). -/
theorem decodeMessage_eq_none {h : Word} {rest : List Word} (hwf : messageWellFormed (h :: rest) = true) :
    decodeMessage (h :: rest) = none ↔ (headerCode h, headerLength h) ∉ requestShapes := by
  obtain ⟨-, hlength, -⟩ := (messageWellFormed_cons h rest).1 hwf
  rw [hlength, ← List.length_map wordPayload, ← requestOf_isSome, Option.not_isSome_iff_eq_none]
  rfl

end Sys2Proof

open Sys2Proof

/-- Settles O5: the header's fields hold every listed code and length, and the readers of the parameters take exactly
the listed number. -/
theorem requestWordsDecode : Obligations.RequestWordsDecode := by
  refine ⟨fun r tag => ?_, fun h rest hwf => decodeMessage_eq_none hwf⟩
  obtain ⟨hcode, h1, h16⟩ := requestShapes_fit _ r.shape_mem
  exact ⟨r.decode_words tag, r.words_wellFormed tag, _, _, rfl, headerTag_requestHeader ..,
    headerLength_requestHeader tag h1 h16, headerCode_requestHeader tag hcode⟩
end
section
/-! SUPPORT. The link's rules (chapter 11): what a word that comes in makes of its link, how a message that completes is
taken or discarded, and that a request sent word by word is the request's command. -/

namespace Sys2Proof.Machine

/-! ### Links replaced -/

theorem Tab.put_put {α : Type} {n : Nat} (t : Tab α n) (i : Fin n) (x y : α) : (t.put i x).put i y = t.put i y := by
  apply Tab.ext
  intro j
  simp only [Tab.at_put]
  split <;> rfl

@[simp] theorem State.setLink_setLink (s : State) (c : Client) (l m : Link) :
    (s.setLink c l).setLink c m = s.setLink c m := by
  simp only [State.setLink, State.setHw_hw, State.setHw_setHw, Tab.put_put]

/-! ### The end of a slot (R172) -/

theorem State.slotEnd_of_tx_none {s : State} (h : s.hw.tx = none) : s.slotEnd = s := by
  rw [State.slotEnd, Highway.slotEnd, h]
  rfl

@[simp] theorem State.slotEnd_setLink_slotEnd (s : State) (c : Client) (l : Link) :
    (s.slotEnd.setLink c l).slotEnd = s.slotEnd.setLink c l :=
  State.slotEnd_of_tx_none s.slotEnd_tx

theorem State.slotEnd_link_same {s : State} {x : Tx} (h : s.hw.tx = some x) :
    s.slotEnd.link x.client = (s.link x.client).wordGone := by
  rw [State.slotEnd, Highway.slotEnd, h]
  exact Tab.at_put_same ..

theorem State.slotEnd_link_ne {s : State} {x : Tx} (h : s.hw.tx = some x) {d : Client} (hd : d ≠ x.client) :
    s.slotEnd.link d = s.link d := by
  rw [State.slotEnd, Highway.slotEnd, h]
  exact Tab.at_put_ne _ _ (Ne.symm hd)

/-! ### A message answered (R171) -/

/-- A link that holds no partial message, answered at the end of the slot in which the message completes. -/
theorem State.respond_answered (s : State) (c : Client) {l : Link} (h : l.assembly = .empty) (code : Nat) (tag : Tag)
    (x : Response) : Answered s ((s.slotEnd.setLink c l).respond c code tag x) c l code tag x := by
  refine ⟨s.slotEnd_frame, s.slotEnd_tx, fun d hd => ?_, ?_⟩
  · rw [State.respond, State.setLink_link_ne _ _ (Ne.symm hd), State.setLink_link_ne _ _ (Ne.symm hd)]
  · rw [State.respond, State.setLink_link_same, State.setLink_link_same, ← h]

/-- STATUS answers with the flags as the end of its own message leaves them, and then clears the latched ones (R174,
R176). -/
theorem State.takeRequest_status {s : State} {c : Client} (tag : Tag) (h : s.takes c) :
    s.takeRequest c tag .status = (s.slotEnd.setLink c (s.linkAfter c true).clearFlags).respond c 20 tag
      (doStatus c (s.messageEnd c true)).1 := by
  obtain ⟨hframe, hpending⟩ := h
  have hstate : (doStatus c (s.messageEnd c true)).2 = s.slotEnd.setLink c (s.linkAfter c true).clearFlags := by
    rw [doStatus, State.messageEnd_link, State.messageEnd, State.setLink_setLink]
  rw [State.takeRequest, if_pos hframe, State.deliver, State.messageEnd_pendingRequest, hpending, if_neg (by simp),
    ← hstate]
  rfl

/-- The body of STATUS in the order of R176. -/
theorem doStatus_body {s u : State} {c : Client} {l : Link} (hu : u = s.setHw u.hw) (hl : u.link c = l) :
    (doStatus c u).1 = {
      code := .ok
      body := [num s.eng.state.code, num s.sel.state.code, optNum (s.sel.target.map (fun p => p.val)),
        optNum s.office.clock, num s.queue.entries.length, flag (s.hold.members.at c), num s.hold.list.length,
        flag (s.resultFlag c), flag (s.findingsFlag c), flag (s.heldFlag c), flag l.overrun, flag l.framing,
        flag l.store] } := by
  subst hl
  rw [hu]
  rfl

/-- A message that 11.6 does not list, with no request pending (R171 case 3). -/
theorem State.takeMessage_malformed {s : State} {c : Client} {h : Word} {rest : List Word} (ht : s.takes c)
    (hd : decodeMessage (h :: rest) = none) : s.takeMessage c (h :: rest) =
      (s.slotEnd.setLink c (s.linkAfter c (decide ((h :: rest).length = 1)))).respond c (headerCode h) (headerTag h)
        (.plain .malformed) := by
  obtain ⟨hframe, hpending⟩ := ht
  rw [State.takeMessage, if_pos hframe, State.deliverMessage, hd]
  exact if_neg (by rw [State.messageEnd_pendingRequest, hpending]; exact nofun)

/-- A message that is a request is taken as that request (log entry 4). -/
theorem State.takeMessage_words (s : State) (c : Client) (tag : Tag) (r : Request) :
    s.takeMessage c (r.words tag) = s.takeRequest c tag r := by
  have hlength : (r.words tag).length = r.length := by simp [Request.words, Request.length]
  have hdeliver : ∀ t : State, t.deliverMessage c (r.words tag) = t.deliver c tag r := fun t => by
    have hdecode := r.decode_words tag
    rw [Request.words] at hdecode ⊢
    rw [State.deliverMessage, hdecode, headerTag_requestHeader]
  rw [State.takeMessage, State.takeRequest, hlength, hdeliver]

/-! ### A message discarded (R171 case 2) -/

/-- A message while a request is pending, and not a LINK RESET, is discarded with OVERRUN set. -/
theorem State.takeMessage_overrun {s : State} {c : Client} {ws : List Word} (hf : s.hw.frame = .aligned)
    (hp : (s.link c).pending.isSome = true) (hws : ws ≠ []) (hd : decodeMessage ws ≠ some .linkReset) :
    s.takeMessage c ws = (s.messageEnd c (decide (ws.length = 1))).overrunOn c := by
  obtain ⟨h, rest, rfl⟩ := List.exists_cons_of_ne_nil hws
  have hpending := (congrArg Option.isSome (s.messageEnd_pendingRequest c (decide ((h :: rest).length = 1)))).trans hp
  rw [State.takeMessage, if_pos hf, State.deliverMessage]
  split
  · rename_i r hr
    exact if_pos ⟨hpending, fun hreset => hd (hreset ▸ hr)⟩
  · exact if_pos hpending

/-- What a discarded message leaves: OVERRUN on its link, whose pending request goes on (R171 case 2). -/
theorem State.messageEnd_overrunOn (s : State) (c : Client) (single : Bool) :
    let t := (s.messageEnd c single).overrunOn c
    t = s.setHw t.hw ∧ t.hw.frame = s.hw.frame ∧ t.hw.tx = none ∧ (∀ d, d ≠ c → t.link d = s.slotEnd.link d) ∧
      t.link c = { s.linkAfter c single with overrun := true } ∧ (t.link c).pending = (s.link c).pending := by
  have hlink : ((s.messageEnd c single).overrunOn c).link c = { s.linkAfter c single with overrun := true } := by
    rw [State.overrunOn, State.setLink_link_same, State.messageEnd_link]
  refine ⟨rfl, s.slotEnd_frame, s.slotEnd_tx, fun d hd => ?_, hlink, ?_⟩
  · rw [State.overrunOn, State.setLink_link_ne _ _ (Ne.symm hd), State.messageEnd,
      State.setLink_link_ne _ _ (Ne.symm hd)]
  · rw [hlink]
    exact s.slotEnd_pendingRequest c

/-! ### Words that come in (R170) -/

section
variable {l : Link} {w : Word}

theorem Link.takeWord_idle (h : wordType w = .idle) : l.takeWord w = (l.dropPartial, none) := by
  simp only [Link.takeWord, h]

theorem Link.takeWord_header (h : wordType w = .header) (hlen : headerLength w ≠ 1) :
    l.takeWord w = ({ l.dropPartial with assembly := .assembling [w] (headerLength w) }, none) := by
  simp only [Link.takeWord, h, if_neg hlen]

theorem Link.takeWord_single (h : wordType w = .header) (hlen : headerLength w = 1) :
    l.takeWord w = (l.dropPartial, some [w]) := by
  simp only [Link.takeWord, h, if_pos hlen]

theorem Link.takeWord_stray (h : wordType w = .data) (he : l.assembly = .empty) :
    l.takeWord w = ({ l with framing := true }, none) := by
  simp only [Link.takeWord, h, he]

variable {ws : List Word} {n : Nat} (h : wordType w = .data) (ha : l.assembly = .assembling ws n)
include h ha

theorem Link.takeWord_more (hn : ws.length + 1 < n) :
    l.takeWord w = ({ l with assembly := .assembling (ws ++ [w]) n }, none) := by
  simp only [Link.takeWord, h, ha, if_neg (Nat.not_le.2 hn)]

theorem Link.takeWord_last (hn : ws.length + 1 = n) :
    l.takeWord w = ({ l with assembly := .empty }, some (ws ++ [w])) := by
  simp only [Link.takeWord, h, ha, if_pos hn.ge]

end

section
variable {s : State} {c : Client} {w : Word} {l : Link} (hf : s.hw.frame = .aligned)
include hf

theorem State.takeWord_incomplete (h : (s.slotEnd.link c).takeWord w = (l, none)) :
    s.takeWord c w = s.slotEnd.setLink c l := by
  simp only [State.takeWord, if_pos hf, h]

/-- A word that completes a message has it taken (R171; log entry 4). -/
theorem State.takeWord_complete {ws : List Word} (h : (s.slotEnd.link c).takeWord w = (l, some ws)) :
    s.takeWord c w = (s.slotEnd.setLink c l).deliverMessage c ws := by
  simp only [State.takeWord, if_pos hf, h]

end

/-! ### A message word by word -/

theorem feed_cons (c : Client) (w : Word) (ws : List Word) (s : State) :
    feed c (w :: ws) s = feed c ws (s.takeWord c w) := rfl

/-- The state at the slot's end with client c's buffer ASSEMBLING. -/
def State.collecting (s : State) (c : Client) (ws : List Word) (n : Nat) : State :=
  s.slotEnd.setLink c { s.slotEnd.link c with assembly := .assembling ws n }

section
variable {s : State} {c : Client}

@[simp] theorem State.collecting_slotEnd (ws : List Word) (n : Nat) :
    (s.collecting c ws n).slotEnd = s.collecting c ws n := s.slotEnd_setLink_slotEnd c _

theorem State.collecting_link (ws : List Word) (n : Nat) :
    (s.collecting c ws n).link c = { s.slotEnd.link c with assembly := .assembling ws n } :=
  s.slotEnd.setLink_link_same c _

theorem State.slotEnd_assembly (s : State) (c : Client) : (s.slotEnd.link c).assembly = (s.link c).assembly := by
  rcases s.slotEnd_link c with h | h <;> rw [h]
  unfold Link.wordGone
  split <;> rfl

variable (hf : s.hw.frame = .aligned)
include hf

theorem State.collecting_frame (ws : List Word) (n : Nat) : (s.collecting c ws n).hw.frame = .aligned :=
  s.slotEnd_frame.trans hf

/-- A DATA word goes on with the message while more than one word is missing (R170). -/
theorem State.collecting_takeWord_more {w : Word} (hw : wordType w = .data) {ws : List Word} {n : Nat}
    (hn : ws.length + 1 < n) : (s.collecting c ws n).takeWord c w = s.collecting c (ws ++ [w]) n := by
  have hassembly := congrArg Link.assembly (s.collecting_link (c := c) ws n)
  rw [← State.collecting_slotEnd] at hassembly
  rw [State.takeWord_incomplete (State.collecting_frame hf ws n) (Link.takeWord_more hw hassembly hn),
    State.collecting_slotEnd, State.collecting_link]
  exact s.slotEnd.setLink_setLink c ..

/-- A message of one word is complete with its header (R170). -/
theorem State.takeWord_header_alone {w : Word} (hw : wordType w = .header) (hlen : headerLength w = 1) :
    s.takeWord c w = s.takeMessage c [w] := by
  rw [State.takeWord_complete hf (Link.takeWord_single hw hlen), State.takeMessage, if_pos hf]
  rfl

variable (he : (s.link c).assembly = .empty)
include he

/-- From an EMPTY buffer a message completes with nothing discarded (R170). -/
theorem State.takeMessage_of_empty (ws : List Word) : s.takeMessage c ws =
    (s.slotEnd.setLink c { s.slotEnd.link c with assembly := .empty }).deliverMessage c ws := by
  have hempty := (s.slotEnd_assembly c).trans he
  have hlink : ∀ single, (s.slotEnd.link c).completed single = { s.slotEnd.link c with assembly := .empty } :=
    fun single => by rw [Link.completed, hempty]; simp [Assembly.isAssembling]
  rw [State.takeMessage, if_pos hf, State.messageEnd, hlink]

/-- The one word that is missing completes the message (R170). -/
theorem State.collecting_takeWord_last {w : Word} (hw : wordType w = .data) (ws : List Word) :
    (s.collecting c ws (ws.length + 1)).takeWord c w = s.takeMessage c (ws ++ [w]) := by
  have hassembly := congrArg Link.assembly (s.collecting_link (c := c) ws (ws.length + 1))
  rw [← State.collecting_slotEnd] at hassembly
  rw [State.takeWord_complete (State.collecting_frame hf ..) (Link.takeWord_last hw hassembly rfl),
    State.collecting_slotEnd, State.collecting_link, State.collecting, State.setLink_setLink,
    State.takeMessage_of_empty hf he]

/-- The header of a message of more words than one begins it in an EMPTY buffer (R170). -/
theorem State.takeWord_begins {w : Word} (hw : wordType w = .header) (hlen : headerLength w ≠ 1) :
    s.takeWord c w = s.collecting c [w] (headerLength w) := by
  have hempty := (s.slotEnd_assembly c).trans he
  rw [State.takeWord_incomplete hf (Link.takeWord_header hw hlen), Link.dropPartial, Link.completed, hempty,
    State.collecting]
  simp [Assembly.isAssembling]

/-- The DATA words that are missing from a partial message complete it. -/
theorem feed_collecting {rest : List Word} (hne : rest ≠ []) (hdata : ∀ w ∈ rest, wordType w = .data)
    (ws : List Word) {n : Nat} (hn : n = ws.length + rest.length) :
    feed c rest (s.collecting c ws n) = .next (s.takeMessage c (ws ++ rest)) := by
  induction rest generalizing ws with
  | nil => exact absurd rfl hne
  | cons w rest ih =>
    obtain ⟨hw, hrest⟩ := List.forall_mem_cons.1 hdata
    rw [feed_cons]
    by_cases hlast : rest = []
    · subst hlast hn
      exact congrArg _ (State.collecting_takeWord_last hf he hw ws)
    · have hpos := List.length_pos_iff.2 hlast
      rw [List.length_cons] at hn
      rw [State.collecting_takeWord_more hf hw (by omega), List.append_cons ws w rest]
      exact ih hlast hrest (ws ++ [w]) (by rw [List.length_append, List.length_singleton]; omega)

/-- A well-formed message sent word by word into an EMPTY buffer is taken at its last word (R170, R171). -/
theorem feed_message {ws : List Word} (hws : messageWellFormed ws = true) :
    feed c ws s = .next (s.takeMessage c ws) := by
  obtain _ | ⟨h, rest⟩ := ws
  · cases hws
  obtain ⟨hheader, hlen, hdata⟩ := (messageWellFormed_cons h rest).1 hws
  rw [feed_cons]
  by_cases hrest : rest = []
  · subst hrest
    exact congrArg _ (State.takeWord_header_alone hf hheader hlen)
  · have hpos := List.length_pos_iff.2 hrest
    rw [State.takeWord_begins hf he hheader (by omega)]
    exact feed_collecting hf he hrest hdata [h] (by rw [hlen, List.length_singleton, Nat.add_comm])

end

end Sys2Proof.Machine

open Sys2Proof
open Sys2Proof.Machine

/-- Settles O6: the request's words are one message, and a message sent word by word into an EMPTY buffer is taken at
its last word. -/
theorem wordByWordEqualsTheRequest : Obligations.WordByWordEqualsTheRequest := by
  intro r tag c s hf he
  rw [feed_message hf he (r.words_wellFormed tag), State.takeMessage_words, exec_command]

/-- Settles O7: `Link.takeWord` by the word's type and the buffer; the state by whether a message completes. -/
theorem inboundWordAssembly : Obligations.InboundWordAssembly := by
  refine ⟨fun w => ⟨wordType_eq_header w, wordType_eq_data w, wordType_eq_idle w⟩, ?_⟩
  rintro s _ c w _ hf rfl rfl
  have hincomplete : ∀ {l}, (s.slotEnd.link c).takeWord w = (l, none) →
      exec (.inboundWord c w) s = .next (s.slotEnd.setLink c l) :=
    fun h => congrArg _ (State.takeWord_incomplete hf h)
  have hcomplete : ∀ {l ws}, (s.slotEnd.link c).takeWord w = (l, some ws) →
      exec (.inboundWord c w) s = .next ((s.slotEnd.setLink c l).deliverMessage c ws) :=
    fun h => congrArg _ (State.takeWord_complete hf h)
  exact ⟨fun h => hincomplete (Link.takeWord_idle h), fun h hlen => hincomplete (Link.takeWord_header h (by omega)),
    fun h hlen => hcomplete (Link.takeWord_single h hlen), fun h he => hincomplete (Link.takeWord_stray h he),
    fun ws n h ha hn => hincomplete (Link.takeWord_more h ha hn),
    fun ws n h ha hn => hcomplete (Link.takeWord_last h ha hn)⟩

/-- Settles O8: the answer is placed on the link as the end of the message's slot leaves it. -/
theorem malformedMessageIsAnswered : Obligations.MalformedMessageIsAnswered := by
  intro s c h rest ht _ hd
  have hsingle : decide ((h :: rest).length = 1) = decide (rest = []) := by simp
  have hmessage := State.takeMessage_malformed ht hd
  rw [hsingle] at hmessage
  refine ⟨_, rfl, ?_, ?_⟩ <;> rw [hmessage]
  · exact s.respond_answered c rfl ..
  · rfl

/-- Settles O9: every message that completes while a request is pending comes to `State.overrunOn` at the end of its
slot. -/
theorem messageWhilePendingIsDiscarded : Obligations.MessageWhilePendingIsDiscarded := by
  intro s c hf hp
  have hleft := s.messageEnd_overrunOn c
  rw [hf] at hleft
  refine ⟨fun ws hwf hd => ?_, fun r tag hr => ?_⟩
  · have hne : ws ≠ [] := fun h => by subst h; cases hwf
    have hmessage := State.takeMessage_overrun hf hp hne hd
    refine ⟨_, ?_, ?_, hleft _⟩ <;> exact congrArg Host.Outcome.next hmessage
  · exact ⟨_, (exec_command ..).trans (congrArg _ (s.takeRequest_overrun c tag r hf hp hr)), hleft _⟩

/-- Settles O16: the answer is that of the state at the message's end, with the latched flags cleared after it. -/
theorem statusReportsThenClears : Obligations.StatusReportsThenClears := by
  rintro s c tag _ h rfl
  have hbody := doStatus_body (s.messageEnd_eq c true) (s.messageEnd_link c true)
  refine ⟨_, rfl, ?_, ?_⟩ <;> rw [State.takeRequest_status tag h, hbody]
  · exact s.respond_answered c rfl ..
  · rfl
end
section
/-! SUPPORT. The highway's slots and its frame (chapter 11): what an outbound slot sends, what a frame sync cuts, and
what a loss and the return of the highway make of it. -/

namespace Sys2Proof.Machine

/-- The state with another outbound word in progress. -/
def State.setTx (s : State) (x : Option Tx) : State := s.setHw { s.hw with tx := x }

@[simp] theorem State.setTx_tx (s : State) (x : Option Tx) : (s.setTx x).hw.tx = x := rfl
@[simp] theorem State.setTx_link (s : State) (x : Option Tx) (d : Client) : (s.setTx x).link d = s.link d := rfl
theorem State.setTx_setLink (s : State) (x : Option Tx) (c : Client) (l : Link) :
    (s.setTx x).setLink c l = (s.setLink c l).setTx x := rfl
@[simp] theorem State.setTx_setTx (s : State) (x y : Option Tx) : (s.setTx x).setTx y = s.setTx y := rfl
theorem State.setTx_self (s : State) : s.setTx s.hw.tx = s := rfl

theorem Tab.at_map {α β : Type} {n : Nat} (t : Tab α n) (f : α → β) (i : Fin n) :
    Tab.at (t.map f) i = f (t.at i) := by
  simp [Tab.at]

theorem State.setFrame_of_frame {s : State} {f : FrameState} (h : s.hw.frame = f) : s.setFrame f = s := by
  subst h
  rfl

/-! ### Without a frame (R165, R166) -/

/-- A command that is a request is taken as that request. -/
theorem exec_request {i : Instr} {r : Request} (h : i.request = some r) (s : State) :
    ∃ c tag, exec i s = .next (s.takeRequest c tag r) := by
  cases i <;> cases h <;> exact ⟨_, _, rfl⟩

theorem State.takeMessage_noFrame {s : State} (hf : s.hw.frame ≠ .aligned) (c : Client) (ws : List Word) :
    s.takeMessage c ws = s := if_neg hf

theorem State.takeWord_noFrame {s : State} (hf : s.hw.frame ≠ .aligned) (c : Client) (w : Word) :
    s.takeWord c w = s := if_neg hf

theorem exec_outboundSlot_noFrame {s : State} {c : Client} (hf : s.hw.frame ≠ .aligned)
    (hc : s.hw.frame = .resynced → c ≠ 0) : exec (.outboundSlot c) s = .next s := by
  simp only [exec, execOutboundSlot]
  cases h : s.hw.frame
  case aligned => exact absurd h hf
  case resynced => exact congrArg _ (if_neg (hc h))
  case waiting | lost => rfl

/-! ### Outbound slots (R172) -/

/-- The slot that comes sends a word, and the frame goes on (R166, R172). -/
theorem exec_outboundSlot {s : State} {c : Client} (h : s.hw.frame = .aligned ∨ s.hw.frame = .resynced ∧ c = 0) :
    exec (.outboundSlot c) s = .next ((s.slotEnd.setFrame .aligned).sendWord c) := by
  simp only [exec, execOutboundSlot]
  rcases h with h | ⟨h, rfl⟩
  · simp only [h, State.setFrame_of_frame (s.slotEnd_frame.trans h)]
  · have hframe : (s.setFrame .aligned).slotEnd = s.slotEnd.setFrame .aligned := by
      rw [State.slotEnd, State.slotEnd, Highway.slotEnd, Highway.slotEnd, State.setFrame_tx]
      split <;> rfl
    simp only [h, if_pos, hframe]

theorem exec_outboundSlot_aligned {s : State} (h : s.hw.frame = .aligned) (c : Client) :
    exec (.outboundSlot c) s = .next (s.slotEnd.sendWord c) := by
  rw [exec_outboundSlot (.inl h), State.setFrame_of_frame (s.slotEnd_frame.trans h)]

/-- Slot 0 comes after a resynchronisation (R166). -/
theorem exec_outboundSlot_resynced {s : State} (hf : s.hw.frame = .aligned) (ht : s.hw.tx = none) :
    exec (.outboundSlot 0) (s.setFrame .resynced) = .next (s.sendWord 0) := by
  rw [exec_outboundSlot (.inr ⟨rfl, rfl⟩), State.slotEnd_of_tx_none (s := s.setFrame .resynced) ht]
  exact congrArg (fun t : State => Host.Outcome.next (t.sendWord 0)) (State.setFrame_of_frame hf)

/-- The link once its next word has been sent: one word more is counted, and the last one ends the request (R172). -/
def Link.afterWord (l : Link) : Link :=
  { l with sent := l.sent + 1, pending := if l.sent + 1 = l.response.length then none else l.pending }

/-- The response word in progress, with the request that it ends as the last one (R166, R172). -/
def Link.outWord (l : Link) (c : Client) (w : Word) : Tx :=
  { client := c, word := w, kind := .response (if l.sent + 1 = l.response.length then l.pending else none) }

theorem State.sendWord_response {s : State} {c : Client} {w : Word}
    (h : (s.link c).response[(s.link c).sent]? = some w) :
    s.sendWord c = (s.setLink c (s.link c).afterWord).setTx (some ((s.link c).outWord c w)) := by
  simp only [State.sendWord, h, decide_eq_true_eq]
  rfl

theorem State.sendWord_idle {s : State} {c : Client} (h : (s.link c).response[(s.link c).sent]? = none) :
    s.sendWord c = s.setTx (some { client := c, word := s.idleWord c, kind := .idle }) := by
  simp only [State.sendWord, h]
  rfl

/-- An outbound slot of client c changes the highway alone, and on it c's link and the word in progress (R172). -/
theorem State.sendWord_spec (s : State) (c : Client) :
    s.sendWord c = s.setHw (s.sendWord c).hw ∧ (s.sendWord c).hw.frame = s.hw.frame ∧
      (∀ d, d ≠ c → (s.sendWord c).link d = s.link d) ∧ ∃ x, (s.sendWord c).hw.tx = some x ∧ x.client = c := by
  cases h : (s.link c).response[(s.link c).sent]? with
  | none =>
    rw [State.sendWord_idle h]
    exact ⟨rfl, rfl, fun _ _ => rfl, _, rfl, rfl⟩
  | some w =>
    rw [State.sendWord_response h]
    exact ⟨rfl, rfl, fun d hd => State.setLink_link_ne _ _ (Ne.symm hd), _, rfl, rfl⟩

/-! ### A frame sync inside a slot (R166) -/

theorem exec_frameSync {s : State} (h : s.hw.frame = .aligned ∨ s.hw.frame = .resynced) (bit : Fin 128) :
    exec (.frameSync bit) s = .next (s.resync bit) := by
  rcases h with h | h <;> simp only [exec, execFrameSync, h]

/-- The state with client c's FRAMING flag set (R166). -/
def State.setFraming (s : State) (c : Client) : State := s.setLink c { s.link c with framing := true }

@[simp] theorem State.setFraming_tx (s : State) (c : Client) : (s.setFraming c).hw.tx = s.hw.tx := rfl
theorem State.setFraming_link (s : State) (c : Client) :
    (s.setFraming c).link c = { s.link c with framing := true } := s.setLink_link_same c _

section
variable {s : State} {c : Client}

theorem State.cutSlot_other (h : ∀ x, s.hw.tx = some x → x.client ≠ c) : s.cutSlot c = s.setFraming c := by
  have hcut : s.hw.cut c = s.hw := by
    unfold Highway.cut
    split
    · rfl
    · rename_i x hx
      exact if_neg (h x hx)
  rw [State.cutSlot, hcut]
  rfl

variable {x : Tx} (hx : s.hw.tx = some x) (hc : x.client = c)
include hx hc

theorem State.cutSlot_idle (hk : x.kind = .idle) : s.cutSlot c = (s.setFraming c).setTx none := by
  have hcut : s.hw.cut c = { s.hw with tx := none } := by
    simp only [Highway.cut, hx, if_pos hc, hk]
  rw [State.cutSlot, hcut]
  rfl

theorem State.cutSlot_response {closes : Option PendingRequest} (hk : x.kind = .response closes) :
    s.cutSlot c = (s.setLink c { s.link c with
      sent := (s.link c).sent - 1
      pending := if closes.isSome then closes else (s.link c).pending
      framing := true }).setTx none := by
  have hcut : s.setHw (s.hw.cut c) = (s.setLink c { s.link c with
      sent := (s.link c).sent - 1
      pending := if closes.isSome then closes else (s.link c).pending }).setTx none := by
    simp only [Highway.cut, hx, if_pos hc, hk]
    rfl
  simp only [State.cutSlot, hcut, State.setTx_link, State.setLink_link_same, State.setTx_setLink,
    State.setLink_setLink]

/-- The slot's own word is gone (R166). -/
theorem State.cutSlot_tx : (s.cutSlot c).hw.tx = none := by
  cases hk : x.kind with
  | idle => rw [State.cutSlot_idle hx hc hk, State.setTx_tx]
  | response closes => rw [State.cutSlot_response hx hc hk, State.setTx_tx]

end

/-- What every cut leaves of the slot's link, with FRAMING set (R166). -/
theorem State.cutSlot_kept (s : State) (c : Client) :
    let l := (s.cutSlot c).link c
    l.assembly = (s.link c).assembly ∧ l.framing = true ∧ l.overrun = (s.link c).overrun ∧
      l.store = (s.link c).store ∧ l.response = (s.link c).response := by
  by_cases h : ∀ x, s.hw.tx = some x → x.client ≠ c
  · rw [State.cutSlot_other h, State.setFraming_link]
    exact ⟨rfl, rfl, rfl, rfl, rfl⟩
  · push Not at h
    obtain ⟨x, hx, hc⟩ := h
    cases hk : x.kind with
    | idle =>
      rw [State.cutSlot_idle hx hc hk, State.setTx_link, State.setFraming_link]
      exact ⟨rfl, rfl, rfl, rfl, rfl⟩
    | response closes =>
      rw [State.cutSlot_response hx hc hk, State.setTx_link, State.setLink_link_same]
      exact ⟨rfl, rfl, rfl, rfl, rfl⟩

/-- A sync inside a slot changes no link but that slot's (R166). -/
theorem State.cutSlot_link_ne (s : State) {c d : Client} (hd : d ≠ c) : (s.cutSlot c).link d = s.link d := by
  have hcut : (s.setHw (s.hw.cut c)).link d = s.link d := by
    unfold Highway.cut
    split
    · rfl
    · split
      · split
        · rfl
        · exact Tab.at_put_ne _ _ (Ne.symm hd)
      · rfl
  rw [State.cutSlot, State.setLink_link_ne _ _ (Ne.symm hd), hcut]

/-- The request that a response word ends is pending again once that word is taken back (R166). -/
theorem Link.afterWord_pending (l : Link) :
    (let closes := if l.sent + 1 = l.response.length then l.pending else none
     if closes.isSome then closes else l.afterWord.pending) = l.pending := by
  unfold Link.afterWord
  by_cases hlast : l.sent + 1 = l.response.length
  · cases hp : l.pending <;> simp [hlast]
  · simp [hlast]

/-- A response word that is cut as it is sent leaves its link as before the slot, but for FRAMING (R166). -/
theorem State.cutSlot_sendWord {s : State} {c : Client} {w : Word}
    (h : (s.link c).response[(s.link c).sent]? = some w) :
    (s.sendWord c).cutSlot c = (s.setFraming c).setTx none := by
  rw [State.sendWord_response h, State.cutSlot_response (c := c) (x := (s.link c).outWord c w) rfl rfl rfl]
  simp only [State.setTx_link, State.setLink_link_same, State.setTx_setLink, State.setLink_setLink, State.setTx_setTx,
    Link.afterWord_pending]
  rfl

/-- A word is sent from the link alone: where the links differ in FRAMING alone, so do the links after it, and the word
is the same (R166, R172). -/
theorem State.sendWord_again {s t : State} {c : Client} (hl : t.link c = { s.link c with framing := true }) {w : Word}
    (h : (s.link c).response[(s.link c).sent]? = some w) :
    (t.sendWord c).hw.tx = (s.sendWord c).hw.tx ∧
      (t.sendWord c).link c = { (s.sendWord c).link c with framing := true } := by
  rw [State.sendWord_response h, State.sendWord_response (s := t) (by rw [hl]; exact h)]
  simp only [State.setTx_tx, State.setTx_link, State.setLink_link_same, hl]
  exact ⟨rfl, rfl⟩

/-- A sync inside the slot of the response word that is being sent, with no other word in progress before it (R166). -/
theorem exec_frameSync_sendWord {s : State} {bit : Fin 128} {c : Client} (hf : s.hw.frame = .aligned)
    (ht : s.hw.tx = none) (hc : bitClient bit = c) (hbit : bit.val % 32 ≠ 0) {w : Word}
    (h : (s.link c).response[(s.link c).sent]? = some w) :
    exec (.frameSync bit) (s.sendWord c) = .next ((s.setFraming c).setFrame .resynced) := by
  obtain ⟨-, hframe, -, -⟩ := s.sendWord_spec c
  obtain ⟨-, -, hcut⟩ := (s.sendWord c).resync_spec bit
  have hnone := (s.setFraming c).setTx_self
  rw [State.setFraming_tx, ht] at hnone
  rw [exec_frameSync (.inl (hframe.trans hf)), hcut hbit, hc, State.cutSlot_sendWord h, hnone]

/-- Another client's slot leaves the link as it is. -/
theorem State.sendWord_slotEnd_link (s : State) {c d : Client} (hd : d ≠ c) :
    (s.sendWord c).slotEnd.link d = s.link d := by
  obtain ⟨-, -, hothers, x, hx, rfl⟩ := s.sendWord_spec c
  exact (State.slotEnd_link_ne hx hd).trans (hothers d hd)

end Sys2Proof.Machine

open Sys2Proof
open Sys2Proof.Machine

/-- Settles O10: every request and every inbound word needs the frame aligned, and a slot that it comes next. -/
theorem nothingMovesWithoutAFrame : Obligations.NothingMovesWithoutAFrame := by
  intro s hf
  refine ⟨fun i r hi => ?_, fun c w => congrArg Host.Outcome.next (State.takeWord_noFrame hf c w),
    fun c ws => congrArg Host.Outcome.next (State.takeMessage_noFrame hf c ws),
    fun c ws => congrArg Host.Outcome.next (State.takeMessage_noFrame hf c ws),
    fun c hc => exec_outboundSlot_noFrame hf hc⟩
  obtain ⟨c, tag, hexec⟩ := exec_request hi s
  rw [hexec, s.takeRequest_noFrame c tag r hf]

/-- Settles O11: the slot sends from the state at the end of the slot before, by whether response words remain. -/
theorem outboundSlotSendsTheNextWord : Obligations.OutboundSlotSendsTheNextWord := by
  refine ⟨?_, fun s x hx => ⟨s.slotEnd_tx, fun d hd => State.slotEnd_link_ne hx hd, State.slotEnd_link_same hx⟩⟩
  rintro s _ c h rfl
  obtain ⟨hstate, hframe, hothers, -⟩ := (s.slotEnd.setFrame .aligned).sendWord_spec c
  refine ⟨_, exec_outboundSlot h, hstate, hframe, hothers, fun w hw => ?_, fun hnone => ?_⟩
  · rw [State.sendWord_response (s := s.slotEnd.setFrame .aligned) hw]
    exact ⟨State.setLink_link_same .., _, rfl, rfl, rfl⟩
  · rw [State.sendWord_idle (s := s.slotEnd.setFrame .aligned) hnone]
    exact ⟨rfl, rfl⟩

/-- Settles O13: `State.resync` by the bit, and `State.cutSlot` by the word in progress. -/
theorem frameSyncCutsOnlyItsSlot : Obligations.FrameSyncCutsOnlyItsSlot := by
  intro s bit c hc
  obtain rfl : c = bitClient bit := Fin.ext hc
  obtain ⟨hconfirm, hmove, hcut⟩ := s.resync_spec bit
  refine ⟨fun hf => ?_, fun hf => ?_, fun hf => ?_⟩
  · have hexec := exec_frameSync hf bit
    obtain ⟨hassembly, hframing, hoverrun, hstore, hresponse⟩ := s.cutSlot_kept (bitClient bit)
    refine ⟨fun h => by rw [hexec, hconfirm h], fun h0 h => by rw [hexec, hmove h0 h]; rfl, fun h =>
      ⟨(s.cutSlot (bitClient bit)).setFrame .resynced, by rw [hexec, hcut h], rfl, rfl,
        fun d hd => s.cutSlot_link_ne hd, hassembly, hframing, hoverrun, hstore, hresponse,
        fun x hx hxc => State.cutSlot_tx hx hxc, fun x hx hxc => ?_, fun x closes hx hxc hk => ?_,
        fun x hx hxc hk => ?_, fun hx => ?_⟩⟩ <;>
      simp only [State.setFrame_tx, State.setFrame_link]
    · rw [State.cutSlot_other fun y hy => Option.some.inj (hx.symm.trans hy) ▸ hxc]
      exact ⟨rfl, s.setFraming_link _⟩
    · rw [State.cutSlot_response hx hxc hk, State.setTx_link, State.setLink_link_same]
      exact ⟨rfl, rfl⟩
    · rw [State.cutSlot_idle hx hxc hk, State.setTx_link, State.setFraming_link]
    · rw [State.cutSlot_other fun y hy => absurd (hx.symm.trans hy) nofun]
      exact ⟨hx, s.setFraming_link _⟩
  · simp only [exec, execFrameSync, hf]
    rfl
  · simp only [exec, execFrameSync, hf]

/-- Settles O14: the cut leaves the link as before its slot but for FRAMING, slot 0 leaves another client's link alone,
and the client's next slot sends what the link holds. -/
theorem cutResponseWordIsSentAgain : Obligations.CutResponseWordIsSentAgain := by
  rintro s t u v w bit c hf hc hbit ⟨x, hx⟩ ht hu hw hv0 hv
  have hframe := s.slotEnd_frame.trans hf
  have hpending := s.slotEnd_pendingRequest c
  obtain rfl := Host.Outcome.next.inj ((exec_outboundSlot_aligned hf c).symm.trans ht)
  obtain rfl := Host.Outcome.next.inj
    ((exec_frameSync_sendWord hframe s.slotEnd_tx (Fin.ext hc.symm) hbit hx).symm.trans hu)
  obtain rfl := Host.Outcome.next.inj
    ((exec_outboundSlot_resynced (s := s.slotEnd.setFraming c) hframe s.slotEnd_tx).symm.trans hw)
  have hcut := s.slotEnd.setFraming_link c
  have hslot0 := fun h : c ≠ 0 => ((s.slotEnd.setFraming c).sendWord_slotEnd_link h).trans hcut
  obtain ⟨htx, hlink⟩ : v.hw.tx = (s.slotEnd.sendWord c).hw.tx ∧
      v.link c = { (s.slotEnd.sendWord c).link c with framing := true } := by
    by_cases h0 : c = 0
    · subst h0
      rw [hv0 rfl]
      exact State.sendWord_again hcut hx
    · obtain ⟨-, hgoes, -, -⟩ := (s.slotEnd.setFraming c).sendWord_spec 0
      obtain rfl := Host.Outcome.next.inj ((exec_outboundSlot_aligned (hgoes.trans hframe) c).symm.trans (hv h0))
      exact State.sendWord_again (hslot0 h0) hx
  have hno : ((s.slotEnd.setFraming c).setFrame .resynced).hw.frame ≠ .aligned := nofun
  refine ⟨fun d hd => exec_outboundSlot_noFrame hno fun _ => hd,
    fun d y => congrArg Host.Outcome.next (State.takeWord_noFrame hno d y), htx, ?_, fun h => ?_, hlink⟩
  · rw [State.setFrame_link, hcut]
    exact hpending
  · rw [← State.slotEnd_pendingRequest, hslot0 h]
    exact hpending

/-- Settles O15: each of the three events by the frame's place. -/
theorem highwayLossReturnAndAlignment : Obligations.HighwayLossReturnAndAlignment := by
  refine ⟨fun s hf => ?_, fun s hf => ?_, fun s hf => ?_, fun s hf => ?_, fun s hf => ?_⟩
  · have hexec : exec .highwayLoss s =
        .next (s.setHw { frame := .lost, tx := none, links := s.hw.links.map Link.lost }) := by
      simp only [exec, execHighwayLoss]
      cases h : s.hw.frame
      case lost => exact absurd h hf
      all_goals rfl
    exact ⟨_, hexec, rfl, rfl, rfl, fun c => Tab.at_map s.hw.links Link.lost c⟩
  · simp only [exec, execHighwayLoss, execHighwayReturn, hf, and_self]
  · simp only [exec, execHighwayReturn]
    cases h : s.hw.frame
    case lost => exact absurd h hf
    all_goals rfl
  · simp only [exec, execFrameAlignment, hf]
    rfl
  · simp only [exec, execFrameAlignment]
    cases h : s.hw.frame
    case waiting => exact absurd h hf
    all_goals rfl
end

section
/-! SUPPORT. The queue of the commands that wait: no request, no event of a block and no power-on touches it
(`Occurs.pending`). -/

namespace Sys2Proof.Machine

/-! ### The requests that act without the arbiter -/

theorem doClaim_pending (c : Client) (port : Payload) (s : State) : (doClaim c port s).2.pending = s.pending := by
  unfold doClaim
  (repeat' split) <;> rfl

theorem doSetProfile_pending (c : Client) (port : Payload) (f : ProfileWords) (s : State) :
    (doSetProfile c port f s).2.pending = s.pending := by
  unfold doSetProfile
  split <;> rfl

theorem doGetResult_pending (c : Client) (port : Payload) (s : State) :
    (doGetResult c port s).2.pending = s.pending := by
  unfold doGetResult
  split <;> rfl

theorem doGetFindings_pending (c : Client) (port first : Payload) (s : State) :
    (doGetFindings c port first s).2.pending = s.pending := by
  unfold doGetFindings
  (repeat' split) <;> rfl

theorem doAckFinding_pending (c : Client) (port entry : Payload) (s : State) :
    (doAckFinding c port entry s).2.pending = s.pending := by
  unfold doAckFinding
  (repeat' split) <;> rfl

theorem doDeleteFinding_pending (c : Client) (port entry : Payload) (s : State) :
    (doDeleteFinding c port entry s).2.pending = s.pending := by
  unfold doDeleteFinding
  (repeat' split) <;> rfl

/-! ### The requests after which the arbiter may choose -/

theorem State.detachIf_pending (s : State) (p : PortNo) : (s.detachIf p).pending = s.pending := by
  unfold State.detachIf State.detach
  dsimp only
  (repeat' split) <;> simp

@[simp] theorem State.releasePort_pending (s : State) (p : PortNo) : (s.releasePort p).pending = s.pending := by
  have hcleared : (s.cleared p).pending = s.pending := s.detachIf_pending p
  rw [State.releasePort_eq]
  split
  · rw [State.drain_pending, hcleared]
  · exact hcleared

theorem doRelease_pending (c : Client) (port : Payload) (s : State) : (doRelease c port s).2.pending = s.pending := by
  unfold doRelease
  split <;> simp

theorem State.scheduleNew_pending (s : State) (c : Client) (p : PortNo) (k : Kind) :
    (s.scheduleNew c p k).2.pending = s.pending := by
  unfold State.scheduleNew
  (repeat' split) <;> simp

/-- A SCHEDULE merges, upgrades, or asks for a new entry (R23). -/
theorem State.scheduleKind_pending (s : State) (c : Client) (p : PortNo) (k : Kind) :
    (s.scheduleKind c p k).2.pending = s.pending := by
  unfold State.scheduleKind
  split
  · rfl
  · cases k with
    | routine =>
      dsimp only
      split
      · rfl
      · exact s.scheduleNew_pending ..
    | urgent =>
      dsimp only
      split
      · simp
      · exact s.scheduleNew_pending ..
    | baseline _ | confirm => exact s.scheduleNew_pending ..

theorem doSchedule_pending (c : Client) (port kind band : Payload) (s : State) :
    (doSchedule c port kind band s).2.pending = s.pending := by
  unfold doSchedule
  split
  · rfl
  · split
    · rfl
    · exact s.scheduleKind_pending ..

@[simp] theorem State.cancelQueued_pending (s : State) (e : Entry) : (s.cancelQueued e).pending = s.pending := by
  simp [State.cancelQueued]

/-- A RUNNING entry is cancelled at once where its test is HELD, and otherwise marked or left (R26). -/
theorem State.cancelRunning_keepsPending (s : State) (ri : RunInfo) : (s.cancelRunning ri).2.pending = s.pending := by
  unfold State.cancelRunning
  split
  · rfl
  · cases s.eng.state with
    | held => simp
    | idle | position | dark | acquire | draining | analyse => rfl

theorem doCancel_pending (c : Client) (ticket : Payload) (s : State) : (doCancel c ticket s).2.pending = s.pending := by
  unfold doCancel
  split
  · rfl
  · split
    · split
      · simp
      · exact s.cancelRunning_keepsPending _
    · rfl

theorem doSetClock_pending (seconds : Payload) (s : State) : (doSetClock seconds s).2.pending = s.pending := by
  unfold doSetClock
  split <;> simp

theorem doSetWindow_pending (c : Client) (start stop : Payload) (s : State) :
    (doSetWindow c start stop s).2.pending = s.pending := by
  unfold doSetWindow
  split <;> simp

theorem doHome_pending (s : State) : (doHome s).2.pending = s.pending := by
  unfold doHome
  split <;> simp

theorem State.eraseSlot_pending (s : State) (slot : Fin 64) : (s.eraseSlot slot).2.pending = s.pending := by
  unfold State.eraseSlot
  (repeat' split) <;> simp

theorem doEraseBaseline_pending (c : Client) (port band : Payload) (s : State) :
    (doEraseBaseline c port band s).2.pending = s.pending := by
  unfold doEraseBaseline
  split
  · rfl
  · split
    · rfl
    · exact s.eraseSlot_pending _

theorem State.resumeFrom_pending (s : State) (c : Client) : (s.resumeFrom c).pending = s.pending := by
  unfold State.resumeFrom
  split <;> simp

@[simp] theorem State.cancelAll_pending (s : State) (c : Client) : (s.cancelAll c).pending = s.pending := by
  rw [State.cancelAll, State.cancelResults_eq]
  rfl

@[simp] theorem State.drainAfterReset_pending (s t : State) (c : Client) :
    (s.drainAfterReset t c).pending = t.pending := by
  unfold State.drainAfterReset
  split <;> simp

theorem doLinkReset_pending (c : Client) (s : State) : (doLinkReset c s).2.pending = s.pending := by
  simp [doLinkReset]

/-- No request touches the commands that wait. -/
theorem handle_pending (c : Client) (r : Request) (s : State) : (handle c r s).2.pending = s.pending := by
  cases r
  case claim => exact doClaim_pending ..
  case release => exact doRelease_pending ..
  case setProfile => exact doSetProfile_pending ..
  case getProfile => exact congrArg State.pending (doGetProfile_state ..)
  case getResult => exact doGetResult_pending ..
  case schedule => exact doSchedule_pending ..
  case cancel => exact doCancel_pending ..
  case listQueue => rfl
  case setWindow => exact doSetWindow_pending ..
  case setClock => exact doSetClock_pending ..
  case home => exact doHome_pending s
  case getTrace => exact congrArg State.pending (doGetTrace_state ..)
  case getFindings => exact doGetFindings_pending ..
  case ackFinding => exact doAckFinding_pending ..
  case deleteFinding => exact doDeleteFinding_pending ..
  case baselineInfo => exact congrArg State.pending (doBaselineInfo_state ..)
  case eraseBaseline => exact doEraseBaseline_pending ..
  case hold => exact s.joinHold_pending c
  case resume => exact s.resumeFrom_pending c
  case status => rfl
  case linkReset => exact doLinkReset_pending c s

/-! ### The clock, the loss-of-light edge, the store and the hold timer -/

theorem State.tick_pending (s : State) : s.tick.pending = s.pending := by
  unfold State.tick
  split
  · rfl
  · dsimp only
    split <;> simp

/-- A new URGENT of an edge changes the queue alone. -/
@[simp] theorem State.admitLos_pending (s : State) (p : PortNo) (c : Client) : (s.admitLos p c).pending = s.pending :=
  rfl

@[simp] theorem State.evict_pending (s : State) (e : Entry) : (s.evict e).pending = s.pending := rfl

theorem State.takeLos_pending (s : State) (p : PortNo) (c : Client) : (s.takeLos p c).pending = s.pending := by
  unfold State.takeLos
  (repeat' split) <;> simp

theorem State.losEdge_pending (s : State) (p : PortNo) : (s.losEdge p).pending = s.pending := by
  unfold State.losEdge
  split
  · rfl
  · split
    · exact s.takeLos_pending ..
    · rfl

@[simp] theorem State.raiseStore_pending (s : State) (slot : Fin 64) : (s.raiseStore slot).pending = s.pending := by
  unfold State.raiseStore
  split <;> rfl

theorem State.programmed_pending (s : State) (r : ReadBack) : (s.programmed r).pending = s.pending := by
  unfold State.programmed
  split
  · rfl
  · dsimp only
    split <;> simp

theorem State.holdExpired_pending (s : State) : s.holdExpired.pending = s.pending := by
  unfold State.holdExpired
  split <;> simp

/-! ### Shots, block boundaries and the end of the analysis -/

theorem State.completeBand_pending (s : State) (sn : Snapshot) (b : Band) (e : Entry) (ri : RunInfo) :
    (s.completeBand sn b e ri).pending = s.pending := by
  unfold State.completeBand
  cases b with
  | A => rfl
  | B =>
    dsimp only
    (repeat' split) <;> rfl

theorem State.darkBoundary_pending (s : State) (sn : Snapshot) (b : Band) :
    (s.darkBoundary sn b).pending = s.pending := by
  unfold State.darkBoundary
  dsimp only
  (repeat' split) <;> simp

theorem State.laserBoundary_pending (s : State) (sn : Snapshot) (b : Band) :
    (s.laserBoundary sn b).pending = s.pending := by
  unfold State.laserBoundary
  dsimp only
  (repeat' split) <;> simp [State.completeBand_pending]

theorem State.drainedBoundary_pending (s : State) : s.drainedBoundary.pending = s.pending := by
  unfold State.drainedBoundary
  dsimp only
  (repeat' split) <;> simp

theorem State.boundary_pending (s : State) (sn : Snapshot) (b : Band) : (s.boundary sn b).pending = s.pending := by
  unfold State.boundary
  split
  · exact s.darkBoundary_pending sn b
  · split
    · exact s.drainedBoundary_pending
    · exact s.laserBoundary_pending sn b

theorem State.endShot_pending (s : State) (x : Samples) : (s.endShot x).pending = s.pending := by
  unfold State.endShot
  split
  · split
    · dsimp only
      split
      · rw [State.arbitrate_pending, State.boundary_pending, State.setEng_pending]
      · rfl
    · rfl
  · rfl

theorem State.foldReport_pending (s : State) (sn : Snapshot) (e : Entry) (r : Report) :
    (s.foldReport sn e r).1.pending = s.pending := by
  unfold State.foldReport
  dsimp only
  split <;> rfl

/-- A test completes with its capture committed, or with its report folded into the fault table (R90). -/
theorem State.completeTest_pending (s : State) (sn : Snapshot) (e : Entry) :
    (s.completeTest sn e).pending = s.pending := by
  unfold State.completeTest
  dsimp only
  split
  · rw [State.endTest_pending, State.setEng_pending]
    split <;> rfl
  · rw [State.endTest_pending, State.setEng_pending, State.foldReport_pending]

theorem State.analysisExpires_pending (s : State) : s.analysisExpires.pending = s.pending := by
  unfold State.analysisExpires
  split
  · split
    · rw [State.arbitrate_pending, State.completeTest_pending]
    · simp
  · rfl

/-! ### Every command -/

/-- Whatever a command does, the commands that wait stay; power-on keeps the outside queue (log entry 31). -/
theorem Occurs.pending {s t : State} (h : Occurs s t) : t.pending = s.pending := by
  cases h with
  | highway | powerOn => rfl
  | request c r x y => exact handle_pending c r (s.setHw x)
  | tick => exact s.tick_pending
  | losEdge p => exact s.losEdge_pending p
  | selector x => rw [State.arbitrate_pending, State.selEvent_pending]
  | shot x => exact s.endShot_pending x
  | analysis => exact s.analysisExpires_pending
  | programmed r => exact s.programmed_pending r
  | holdExpired => exact s.holdExpired_pending

/-- No arm of the dispatch stops the machine. -/
theorem exec_completes (i : Instr) (s : State) : ∃ t, exec i s = .next t := by
  cases i <;> exact ⟨_, rfl⟩

end Sys2Proof.Machine

open Sys2Proof
open Sys2Proof.Machine

/-- Settles O1: the two branches of a step, by the queue of the commands that wait. -/
theorem stepRunsTheFrontCommand : Obligations.StepRunsTheFrontCommand := by
  refine ⟨fun s i rest h => ?_, fun s h => ?_⟩
  · rw [step, h]
  · rw [step, h]

/-- Settles O2: every command completes, and whatever it does keeps the commands that wait. -/
theorem everyCommandCompletesAndKeepsTheQueue : Obligations.EveryCommandCompletesAndKeepsTheQueue := fun i s => by
  obtain ⟨t, ht⟩ := exec_completes i s
  exact ⟨t, ht, (exec_occurs ht).pending⟩
end
